-- ==== Sys2Proof/Word.lean ====
section
/-! DEFINITION. The two kinds of word that the spec treats as bits: the byte of a frame (R161) and the cyclic redundancy check that closes it (R163). Every other quantity of the ZT-3640 is a number with a range, and is a `Nat` in this model. -/

namespace Sys2Proof

/-- One character of a frame (R161), and one byte of a coded body (R172). -/
abbrev Byte := BitVec 8

/-- The register of the frame check (R163). -/
abbrev Crc := BitVec 16

end Sys2Proof
end

