-- ==== Sys2Proof/Config.lean ====
section
/-! DEFINITION. The constants that the spec fixes for every ZT-3640: how many records each table keeps and where each range ends; and the one value that it leaves open, a constant without a body. -/

namespace Sys2Proof.Config

/-- The largest trunk group number (R1). -/
def lastGroup : Nat := 255
/-- The largest circuit number (R1, R2). -/
def lastCircuit : Nat := 16383
/-- The most circuits one group may hold (R1). -/
def maxGroupCircuits : Nat := 1024
/-- The largest carrier number (R1, R101). -/
def lastCarrier : Nat := 63
/-- How many call records CRT holds (R25). -/
def callRecords : Nat := 16384
/-- Generations count modulo this number (R25). -/
def generations : Nat := 256
/-- The guard time after power-on reset, in seconds (R25, R42). -/
def resetGuardSeconds : Nat := 8
/-- The largest guard time, in seconds (R42). -/
def maxGuardSeconds : Nat := 60
/-- The largest destination number (R46). -/
def lastDest : Nat := 4095
/-- The largest route set number (R48). -/
def lastSet : Nat := 511
/-- The most choices of one route list, and the most groups of one route set (R46, R48). -/
def maxChoices : Nat := 8
/-- The largest gap interval, in units of 100 ms (R73). -/
def maxGap : Nat := 600
/-- The longest restriction one report may ask for, in seconds (R73). -/
def maxRestrictionSeconds : Nat := 3600
/-- Occupancy, index and refusal fraction are counted in this many parts (R84, R88). -/
def full : Nat := 4096
/-- Where the 32-bit counters of CMN and STS stop (R84, R133). -/
def maxCount32 : Nat := 4294967295
/-- Where the 48-bit totals and the running time stop (R133, R146). -/
def maxCount48 : Nat := 281474976710655
/-- The first period end after power-on reset (R86). -/
def firstPeriodEnd : Nat := 5000
/-- The last second of a day (R147). -/
def lastSecond : Nat := 86399
/-- The longest duration a leg is rated for, in ms (R125). -/
def maxDuration : Nat := 86400000
/-- Period numbers and day numbers count modulo this number (R138, R147). -/
def wrap16 : Nat := 65536
/-- The most requests one FIFO holds (R164). -/
def fifoDepth : Nat := 2
/-- The most HOLD replies one reply list holds (R164). -/
def maxHolds : Nat := 7
/-- The most notices one queue holds (R177). -/
def maxNotices : Nat := 32
/-- The most notices one TAKE_NOTICES returns (R181). -/
def noticesTaken : Nat := 8
/-- How long a line must be held in space before its indication becomes LOST, in ms (R158). -/
def spaceDelay : Nat := 20
/-- How long a line must stand GOOD before its link goes UP, in ms (R159). -/
def linkUpDelay : Nat := 100

/-- What a six-byte field carries for a kept time that is beyond 2^48−1: a FREE VALUE, since R146 keeps such times and no rule says how one is coded (log entry 17). -/
opaque codeOfLateTime : Nat → BitVec 48

end Sys2Proof.Config
end

