-- ==== Sys2Proof/Syntax.lean ====
section
/-! DEFINITION. The commands of the ZT-3640: one constructor for each row of spec/opcode_table.json, with its operands. A request row's first operand says whose request is served; the rest are the fields of its body as R169 to R175 code them, each a number in the width of R172. -/

namespace Sys2Proof

/-- The four master ports (R156). -/
inductive PortId where
  | p0 | p1 | p2 | p3
  deriving DecidableEq, Repr

/-- Whose request a block serves: the request at the head of a port's FIFO (R166), or a request that a link loss found in service and left with its owning block (R160). -/
inductive Requester where
  | head (port : PortId)
  | detached (port : PortId)
  deriving DecidableEq, Repr

/-- The port a request arrived on. -/
def Requester.port : Requester → PortId
  | .head p => p
  | .detached p => p

/-- The levels of one port's two role pins, `true` for high (R157). -/
structure PinPair where
  first : Bool
  second : Bool
  deriving DecidableEq, Repr

/-- The eight role pins (R157). -/
structure RolePins where
  p0 : PinPair
  p1 : PinPair
  p2 : PinPair
  p3 : PinPair
  deriving DecidableEq, Repr

/-- One route choice as WRITE_DEST codes it (R169): each field the number in its byte or bytes. -/
structure ChoiceArg where
  kind : Nat
  target : Nat
  rank : Nat
  mask : Nat
  deriving DecidableEq, Repr

/-- One entry of WRITE_ROUTE_SET as coded (R169). -/
structure SetEntryArg where
  kind : Nat
  number : Nat
  deriving DecidableEq, Repr

/-- One switch point of a band table (R118), and its coded form in WRITE_BANDS (R169). -/
structure SwitchPoint where
  second : Nat
  band : Nat
  deriving DecidableEq, Repr

/-- The ten values of one tariff class (R115), and their coded form in WRITE_TARIFF (R169). -/
structure TariffClass where
  setup : Nat
  step : Nat
  minSteps : Nat
  rate0 : Nat
  rate1 : Nat
  rate2 : Nat
  rate3 : Nat
  surcharge1 : Nat
  surcharge2 : Nat
  surcharge3 : Nat
  deriving DecidableEq, Repr

/-- The five values of one congestion profile (R92), and their coded form in WRITE_PROFILE (R169). -/
structure Profile where
  u1 : Nat
  u2 : Nat
  u3 : Nat
  hysteresis : Nat
  shift : Nat
  deriving DecidableEq, Repr

/-- The range and the other fields of DEFINE_GROUP's define form as coded (R169, R172), the maintenance set read from its flags as the circuits that they mark. -/
structure GroupArg where
  first : Nat
  count : Nat
  direction : Nat
  carrier : Nat
  glare : Nat
  reserve : Nat
  profile : Nat
  maint : List Nat
  deriving DecidableEq, Repr

/-- The commands. Where a kind of request has forms, the row of its last form also carries the form as coded, so that a form the kind does not know has a row that refuses it (R170). -/
inductive Instr where
  -- reset, clock and line events
  | powerOnReset (pins : RolePins)
  | millisecondTick
  | lineIndicationLost (p : PortId)
  | lineIndicationGood (p : PortId)
  | linkUp (p : PortId)
  | frameArrival (p : PortId) (bytes : List Byte) (stopFault : Bool)
  | engineGrant
  | replySent (p : PortId)
  -- calls
  | route (r : Requester) (dest cls : Nat) (inbound : Option Nat)
  | confirm (r : Requester) (index gen : Nat)
  | answer (r : Requester) (index gen : Nat)
  | release (r : Requester) (index gen : Nat)
  | reroute (r : Requester) (index gen : Nat)
  | queryCall (r : Requester) (index gen : Nat)
  | guardExpiry (index : Nat)
  | setGuard (r : Requester) (seconds : Nat)
  | adoptPort (r : Requester) (fromPort toPort : Nat)
  | exchangeRestart (r : Requester)
  -- groups and circuits
  | defineGroupDefine (r : Requester) (group : Nat) (arg : GroupArg)
  | defineGroupRemove (r : Requester) (group form : Nat)
  | setGroupStateBlock (r : Requester) (group : Nat)
  | setGroupStateUnblock (r : Requester) (group form : Nat)
  | setReserve (r : Requester) (group reserve : Nat)
  | circuitMaintOut (r : Requester) (circuit : Nat)
  | circuitMaintReturn (r : Requester) (circuit form : Nat)
  | readGroupSummary (r : Requester) (group form : Nat)
  | readGroupCircuit (r : Requester) (group start n : Nat)
  | readGroupFreeList (r : Requester) (group start n : Nat)
  -- routing tables
  | writeDest (r : Requester) (dest : Nat) (rotate : Byte) (choices : List ChoiceArg)
  | writeRouteSet (r : Requester) (set : Nat) (entries : List SetEntryArg)
  | maskChoice (r : Requester) (dest position mask : Nat)
  | setFirst (r : Requester) (dest position : Nat)
  | readDestDestination (r : Requester) (dest : Nat)
  | readDestRouteSet (r : Requester) (form set : Nat)
  -- restriction
  | farCongestion (r : Requester) (dest gap duration : Nat)
  | farClear (r : Requester) (dest : Nat)
  | gapExpiry (dest : Nat)
  | restrictionEnd (dest : Nat)
  -- congestion
  | periodEnd
  | writeProfile (r : Requester) (profile : Nat) (arg : Profile)
  | setPeriod (r : Requester) (code : Nat)
  | readCongestionGroup (r : Requester) (first count : Nat)
  | readCongestionProfile (r : Requester) (profile : Nat)
  | readCongestionPeriod (r : Requester) (form : Nat)
  -- agreements
  | writeLocalOffer (r : Requester) (carrier : Nat) (slots : List Nat)
  | writeCarrierOffer (r : Requester) (carrier : Nat) (slots : List Nat)
  | confirmAgreement (r : Requester) (carrier slot : Nat)
  | withdrawAgreement (r : Requester) (carrier : Nat)
  | readAgreement (r : Requester) (first count : Nat)
  -- rating
  | writeTariff (r : Requester) (carrier slot : Nat) (arg : TariffClass)
  | writeBands (r : Requester) (points : List SwitchPoint)
  | readTariffClass (r : Requester) (copy carrier slot : Nat)
  | readTariffBand (r : Requester) (form copy : Nat)
  -- settlement
  | closePeriod (r : Requester)
  | automaticClose
  | setAutoCloseOff (r : Requester)
  | setAutoCloseSecond (r : Requester) (form second : Nat)
  | readBank (r : Requester) (bank first count : Nat)
  | releaseBank (r : Requester) (bank : Nat)
  -- time
  | setTime (r : Requester) (day second milli : Nat)
  | readTime (r : Requester)
  -- notices and ports
  | takeNotices (r : Requester)
  | setNoticeMask (r : Requester) (mask : Byte)
  | portStatus (r : Requester) (port : Nat)
  | identify (r : Requester)
  deriving DecidableEq, Repr

/-- The requester of a request row; `none` for the rows that are events. -/
def Instr.requester? : Instr → Option Requester
  | .powerOnReset _ | .millisecondTick | .lineIndicationLost _ | .lineIndicationGood _ | .linkUp _
  | .frameArrival _ _ _ | .engineGrant | .replySent _ | .guardExpiry _ | .gapExpiry _
  | .restrictionEnd _ | .periodEnd | .automaticClose => none
  | .route r _ _ _ | .confirm r _ _ | .answer r _ _ | .release r _ _ | .reroute r _ _
  | .queryCall r _ _ | .setGuard r _ | .adoptPort r _ _ | .exchangeRestart r
  | .defineGroupDefine r _ _ | .defineGroupRemove r _ _ | .setGroupStateBlock r _
  | .setGroupStateUnblock r _ _ | .setReserve r _ _ | .circuitMaintOut r _
  | .circuitMaintReturn r _ _ | .readGroupSummary r _ _ | .readGroupCircuit r _ _ _
  | .readGroupFreeList r _ _ _ | .writeDest r _ _ _ | .writeRouteSet r _ _ | .maskChoice r _ _ _
  | .setFirst r _ _ | .readDestDestination r _ | .readDestRouteSet r _ _ | .farCongestion r _ _ _
  | .farClear r _ | .writeProfile r _ _ | .setPeriod r _ | .readCongestionGroup r _ _
  | .readCongestionProfile r _ | .readCongestionPeriod r _ | .writeLocalOffer r _ _
  | .writeCarrierOffer r _ _ | .confirmAgreement r _ _ | .withdrawAgreement r _
  | .readAgreement r _ _ | .writeTariff r _ _ _ | .writeBands r _ | .readTariffClass r _ _ _
  | .readTariffBand r _ _ | .closePeriod r | .setAutoCloseOff r | .setAutoCloseSecond r _ _
  | .readBank r _ _ _ | .releaseBank r _ | .setTime r _ _ _ | .readTime r | .takeNotices r
  | .setNoticeMask r _ | .portStatus r _ | .identify r => some r

end Sys2Proof
end

