-- ==== Sys2Proof/Decode.lean ====
section
/-! DEFINITION. The command that a word spells by the bits of spec/opcode_table.json. The table gives no row any bits (98_reader.md: 65 rows, none with fixed bits or fields), so no word spells a command. How a request frame spells one is in Machine/Frames.lean. -/

namespace Sys2Proof

/-- The command an `nbits`-bit word spells: none, since the table gives no row any bits. -/
def decodeTableWord (_nbits _w : Nat) : Option Instr := none

end Sys2Proof
end

