-- ==== Sys2Proof/Machine/Table.lean ====
section
/-! DEFINITION. Tables with numbered entries, held sparsely. A table lists the entries that differ from the value `d` that its numbers have after power-on reset, in strictly rising order of number, so that two tables with the same entries are the same data. -/

namespace Sys2Proof.Machine

/-- A numbered table: the listed entries, in rising order of number. -/
abbrev Table (α : Type) := List (Nat × α)

/-- The entry of number `k`; `d` where none is listed. -/
def Table.get {α : Type} (d : α) : Table α → Nat → α
  | [], _ => d
  | (j, v) :: t, k => if j = k then v else Table.get d t k

/-- List `v` as the entry of a number `k` that has none, in its place in the order. -/
def Table.insert {α : Type} (k : Nat) (v : α) : Table α → Table α
  | [] => [(k, v)]
  | (j, w) :: t => if k < j then (k, v) :: (j, w) :: t else (j, w) :: Table.insert k v t

/-- The table with the entry of every number in `lo` to `lo + n - 1` back at the default. -/
def Table.clearRange {α : Type} (t : Table α) (lo n : Nat) : Table α :=
  t.filter fun e => decide (e.1 < lo) || decide (lo + n ≤ e.1)

/-- The table with `v` as the entry of number `k`. -/
def Table.set {α : Type} [DecidableEq α] (d : α) (t : Table α) (k : Nat) (v : α) : Table α :=
  let others := t.filter fun e => decide (e.1 ≠ k)
  if v = d then others else Table.insert k v others

/-- The canonical form: numbers strictly rising, each at most `last`, and no entry equal to the default. -/
def Table.wf {α : Type} [DecidableEq α] (d : α) (last : Nat) (t : Table α) : Bool :=
  decide (t.Pairwise fun a b => a.1 < b.1) && t.all fun e => decide (e.1 ≤ last) && decide (e.2 ≠ d)

end Sys2Proof.Machine
end

