-- ==== Sys2Proof/Machine/State.lean ====
section
/-! DEFINITION. The state of the ZT-3640, block by block as 00_scope.md lays it out: each of the nine blocks owns one field of `State`. The tenth field is the queue of commands, the model's own. -/

namespace Sys2Proof.Machine

/-- Roles of a port (R156, R157). -/
inductive Role where
  | off | call | mgmt | both
  deriving DecidableEq, Repr

/-- What the receiver makes of its line (R158). -/
inductive LineIndication where
  | lost | good
  deriving DecidableEq, Repr

/-- The state of a port's link (R156). -/
inductive LinkState where
  | down | up
  deriving DecidableEq, Repr

/-- The stage of the request at the head of a FIFO (R156); `noHead` is the spec's "none". -/
inductive HeadStage where
  | noHead | checked | waiting | inService | answered
  deriving DecidableEq, Repr

/-- A request in a FIFO: the frame's tag, kind code and body (R161, R164). -/
structure Request where
  tag : Byte
  kind : Byte
  body : List Byte
  deriving DecidableEq, Repr

/-- A frame in a reply list: its bytes, and whether it is a HOLD reply or the reply of a served head (R156, R167). -/
structure ReplyFrame where
  hold : Bool
  bytes : List Byte
  deriving DecidableEq, Repr

/-- The two settlement banks (R132). -/
inductive BankId where
  | a | b
  deriving DecidableEq, Repr

/-- The names of the agreement states (R101), as a notice carries them. -/
inductive AgreementName where
  | unset | offerHeld | matched | confirmed | mismatch
  deriving DecidableEq, Repr

/-- The kinds of notice with their fields (R177). -/
inductive NoticeBody where
  | reservationExpired (index gen : Nat)
  | displaced (index gen : Nat)
  | levelChange (group old new : Nat)
  | groupDrained (group : Nat)
  | destOpened (dest : Nat)
  | agreementState (carrier : Nat) (state : AgreementName)
  | periodClosed (bank : BankId) (period : Nat)
  | closeDeferred (period : Nat)
  | recordsAdopted (fromPort : PortId) (count : Nat)
  deriving DecidableEq, Repr

/-- A queued notice: its kind and fields, and the low 32 bits of the running time at which it was raised (R154, R177). -/
structure Notice where
  body : NoticeBody
  stamp : Nat
  deriving DecidableEq, Repr

/-- What PCT keeps for one port (R156, R177). `goodSince` is the running time from which the line has stood GOOD, which R158 and R159 count from; `headAt` is the model's own, the running time at which the present head became head (log entry 14); `detached` holds the requests that a link loss left in service (R160). -/
structure Port where
  role : Role
  line : LineIndication
  goodSince : Nat
  link : LinkState
  fifo : List Request
  stage : HeadStage
  headAt : Nat
  replies : List ReplyFrame
  badFrame : Bool
  linkLost : Bool
  noticeLost : Bool
  notices : List Notice
  mask : BitVec 6
  attention : Bool
  detached : List Request
  deriving DecidableEq, Repr

/-- The four ports (R156). -/
structure Ports where
  p0 : Port
  p1 : Port
  p2 : Port
  p3 : Port
  deriving DecidableEq, Repr

/-- Which end may seize circuits of a group (R1). -/
inductive Direction where
  | outgoing | incoming | bothway
  deriving DecidableEq, Repr

/-- How a far-end seizure of a RESERVED circuit is settled (R1). -/
inductive GlareRule where
  | localWins | farWins
  deriving DecidableEq, Repr

/-- The states of a defined group (R6). UNDEFINED is the absence of a record. -/
inductive GroupState where
  | inService | draining | blocked
  deriving DecidableEq, Repr

/-- A defined trunk group record (R1). -/
structure Group where
  first : Nat
  count : Nat
  direction : Direction
  carrier : Nat
  glare : GlareRule
  reserve : Nat
  profile : Nat
  state : GroupState
  freeList : List Nat
  busy : Nat
  deriving DecidableEq, Repr

/-- The states of a circuit of a defined group (R2). -/
inductive CircuitState where
  | idle | reserved | busy | maint
  deriving DecidableEq, Repr

/-- A circuit's state and its maintenance pending mark (R2, R3). -/
structure Circuit where
  state : CircuitState
  mark : Bool
  deriving DecidableEq, Repr

/-- The state an unlisted circuit has when a group holds it. -/
def Circuit.idle : Circuit := ⟨.idle, false⟩

/-- What CPL owns. A group not listed is UNDEFINED; a circuit that no group holds is unassigned, whatever `circuits` says. -/
structure CircuitPool where
  groups : Table (Option Group)
  circuits : Table Circuit
  deriving DecidableEq, Repr

/-- Call classes (R24, R173). -/
inductive CallClass where
  | emergency | priority | ordinary | low
  deriving DecidableEq, Repr

/-- The states of a live call record (R24). -/
inductive CallState where
  | reserved | seized | answered | displaced
  deriving DecidableEq, Repr

/-- The inbound pair of a record with the fields that stand with it (R24). -/
structure Inbound where
  group : Nat
  circuit : Nat
  level : Nat
  receivable : Option Nat
  deriving DecidableEq, Repr

/-- The outbound pair of a record with the fields that are set and removed with it (R24). -/
structure Outbound where
  group : Nat
  circuit : Nat
  rank : Nat
  firstChoice : Bool
  level : Nat
  payable : Option Nat
  deriving DecidableEq, Repr

/-- The answer time and band of an ANSWERED record (R24). -/
structure AnswerMark where
  time : Nat
  band : Nat
  deriving DecidableEq, Repr

/-- A live call record (R24). Its index and generation are those of its place in the table. -/
structure CallRecord where
  state : CallState
  owner : PortId
  dest : Nat
  cls : CallClass
  inbound : Option Inbound
  outbound : Option Outbound
  deadline : Option Nat
  answer : Option AnswerMark
  deriving DecidableEq, Repr

/-- The free-record queue (R25): the indices from `fresh` up, which have not been taken since reset, and behind them the indices that have come back. -/
structure FreeQueue where
  fresh : Nat
  returned : List Nat
  deriving DecidableEq, Repr

/-- What CRT owns. A record not listed in `calls` is free; a generation not listed is 0. -/
structure CallTable where
  calls : Table (Option CallRecord)
  gens : Table Nat
  queue : FreeQueue
  guardSeconds : Nat
  deriving DecidableEq, Repr

/-- What a route choice leads to (R47). -/
inductive Target where
  | direct (group : Nat)
  | chained (set : Nat)
  deriving DecidableEq, Repr

/-- A route choice (R47). -/
structure Choice where
  target : Target
  rank : Nat
  masked : Bool
  deriving DecidableEq, Repr

/-- The restriction of a RESTRICTED destination (R71); times are running times, the gap in units of 100 ms. -/
structure Restriction where
  gap : Nat
  nextAdmit : Nat
  lastAdmit : Option Nat
  endTime : Nat
  deriving DecidableEq, Repr

/-- A destination record (R46). `orders` lists the rotation order of each rotating rank; OPEN is the absence of a restriction. -/
structure Dest where
  routes : List Choice
  rotate : Byte
  orders : Table (List Nat)
  restriction : Option Restriction
  deriving DecidableEq, Repr

/-- A destination after power-on reset (R46). -/
def Dest.reset : Dest := ⟨[], 0, [], none⟩

/-- What RSE owns. -/
structure RouteEngine where
  dests : Table Dest
  sets : Table (List Nat)
  pointer : PortId
  deriving DecidableEq, Repr

/-- CMN's record of one group number (R84). -/
structure CongestionRecord where
  index : Nat
  level : Nat
  attempts : Nat
  refusals : Nat
  peak : Nat
  deriving DecidableEq, Repr

/-- A congestion record of zeros (R84). -/
def CongestionRecord.zero : CongestionRecord := ⟨0, 0, 0, 0, 0⟩

/-- The profile that both copies hold after power-on reset (R92). -/
def resetProfile : Profile := ⟨2867, 3482, 3891, 205, 2⟩

/-- What CMN owns. -/
structure CongestionMonitor where
  records : Table CongestionRecord
  inForce : Table Profile
  staged : Table Profile
  inForcePeriod : Nat
  stagedPeriod : Nat
  nextPeriodEnd : Nat
  deriving DecidableEq, Repr

/-- The state of an agreement; the agreed slot is present in MATCHED and CONFIRMED (R101). -/
inductive AgreementState where
  | unset
  | offerHeld
  | matched (slot : Nat)
  | confirmed (slot : Nat)
  | mismatch
  deriving DecidableEq, Repr

/-- An agreement record (R101). The carrier offer is a set, held in ascending order. -/
structure Agreement where
  localOffer : List Nat
  carrierOffer : Option (List Nat)
  state : AgreementState
  deriving DecidableEq, Repr

/-- An agreement record after power-on reset (R102). -/
def Agreement.reset : Agreement := ⟨[], none, .unset⟩

/-- What CAU owns. -/
structure AgreementUnit where
  records : Table Agreement
  deriving DecidableEq, Repr

/-- A tariff class after power-on reset (R116). -/
def resetTariff : TariffClass := ⟨0, 60, 0, 0, 0, 0, 0, 0, 0, 0⟩

/-- What HRU owns: classes by carrier and slot, and band tables, each in force and pending (R115, R118). -/
structure RatingUnit where
  inForce : Table TariffClass
  pendingClasses : Table TariffClass
  bands : List SwitchPoint
  pendingBands : List SwitchPoint
  deriving DecidableEq, Repr

/-- A bank's time stamp (R132). -/
structure Stamp where
  day : Nat
  second : Nat
  deriving DecidableEq, Repr

/-- A bank's header: its state with the fields present in it (R132). -/
inductive BankState where
  | active (period : Nat) (opened : Stamp)
  | collectable (period : Nat) (opened closed : Stamp)
  | available
  deriving DecidableEq, Repr

/-- A carrier settlement record (R133). -/
structure SettlementRecord where
  payable : Nat
  receivable : Nat
  payableLegs : Nat
  receivableLegs : Nat
  unanswered : Nat
  steps : Nat
  saturated : Bool
  deriving DecidableEq, Repr

/-- A carrier settlement record of zeros, its flag clear (R134). -/
def SettlementRecord.zero : SettlementRecord := ⟨0, 0, 0, 0, 0, 0, false⟩

/-- A bank (R132). -/
structure Bank where
  state : BankState
  records : Table SettlementRecord
  deriving DecidableEq, Repr

/-- What STS owns (R132, R134). `closeDue` is set while an automatic close that a tick made due has not been served (R141, R149). -/
structure SettlementStore where
  bankA : Bank
  bankB : Bank
  activeBank : BankId
  closeDeferred : Bool
  autoClose : Option Nat
  closeDue : Bool
  deriving DecidableEq, Repr

/-- What TMB owns (R146, R147). -/
structure TimeBase where
  running : Nat
  day : Nat
  second : Nat
  milli : Nat
  deriving DecidableEq, Repr

/-- The state of the part, one field for each block, and the commands that wait. -/
structure State where
  pct : Ports
  cpl : CircuitPool
  crt : CallTable
  rse : RouteEngine
  cmn : CongestionMonitor
  cau : AgreementUnit
  hru : RatingUnit
  sts : SettlementStore
  tmb : TimeBase
  pending : List Instr
  deriving DecidableEq, Repr

/-- The part has no fault: what goes wrong is a result code, a latched flag or a discarded frame (R162, R171, R183). No command raises one. -/
inductive Fault where
  deriving DecidableEq, Repr

/-- The one refusal the host asks for. `notModelled` would be raised by an arm of `exec` that has no meaning yet (safe); every arm has one, so no command raises it. -/
inductive Refusal where
  | notModelled (mnemonic : String)
  deriving DecidableEq, Repr

/-- A port of the given role after power-on reset (R156). -/
def Port.reset (role : Role) : Port :=
  { role := role, line := .lost, goodSince := 0, link := .down, fifo := [], stage := .noHead, headAt := 0,
    replies := [], badFrame := false, linkLost := false, noticeLost := false, notices := [],
    mask := BitVec.allOnes 6, attention := false, detached := [] }

/-- The whole part after power-on reset, its ports of the given roles (R7, R25, R42, R46, R48, R58, R84, R86, R92, R102, R116, R118, R134, R155, R156, R177). -/
def State.resetRoles (r0 r1 r2 r3 : Role) : State :=
  { pct := ⟨.reset r0, .reset r1, .reset r2, .reset r3⟩
    cpl := ⟨[], []⟩
    crt := ⟨[], [], ⟨0, []⟩, Config.resetGuardSeconds⟩
    rse := ⟨[], [], .p3⟩
    cmn := ⟨[], [], [], 1, 1, Config.firstPeriodEnd⟩
    cau := ⟨[]⟩
    hru := ⟨[], [], [], []⟩
    sts := ⟨⟨.active 0 ⟨0, 0⟩, []⟩, ⟨.available, []⟩, .a, false, none, false⟩
    tmb := ⟨0, 0, 0, 0⟩
    pending := [] }

/-- The machine right after reset. The role pins are inputs of the board: DESIGN CHOICE, both pins of every port high, so every port is of role BOTH (log entry 1, unsafe). POWER_ON_RESET samples any other pins. -/
def State.reset : State := State.resetRoles .both .both .both .both

end Sys2Proof.Machine
end

