-- ==== Sys2Proof/Machine/Operands.lean ====
section
/-! DEFINITION. How fields are coded: numbers as bytes, most significant first, absent fields as ones (R172), and the codes of the named values (R171, R173, R176). -/

namespace Sys2Proof.Machine

/-! ### Numbers -/

/-- The number `n` in `w` bytes, most significant byte first (R172). -/
def beBytes : Nat → Nat → List Byte
  | 0, _ => []
  | w + 1, n => BitVec.ofNat 8 (n / 256 ^ w) :: beBytes w n

/-- The number that bytes code, most significant byte first (R172). -/
def beNat (bytes : List Byte) : Nat :=
  bytes.foldl (fun acc b => acc * 256 + b.toNat) 0

/-- The field of `w` bytes at offset `off` of a body (R172). -/
def field (body : List Byte) (off w : Nat) : Nat :=
  beNat ((body.drop off).take w)

/-- An absent field of `w` bytes: every bit set (R172). -/
def absent (w : Nat) : List Byte :=
  List.replicate w 255

/-- A field of `w` bytes that may be absent (R172). -/
def optBytes (w : Nat) : Option Nat → List Byte
  | some n => beBytes w n
  | none => absent w

/-- A kept time in running time, in six bytes (R172). A time beyond 2^48−1 is never reached (R146), and what its field carries is a free value: log entry 17. -/
def timeBytes (n : Nat) : List Byte :=
  beBytes 6 (if n ≤ Config.maxCount48 then n else (Config.codeOfLateTime n).toNat)

/-- A kept time that may be absent (R172). -/
def optTimeBytes : Option Nat → List Byte
  | some n => timeBytes n
  | none => absent 6

/-- A list of entries led by its count (R169, R172). DEDUCED for replies: log entry 7. -/
def listBytes {α : Type} (entry : α → List Byte) (l : List α) : List Byte :=
  beBytes 1 l.length ++ l.flatMap entry

/-- The value a clamped field takes, for a range of `lo` to `hi` (00_scope.md, "Results"). -/
def clamp (lo hi n : Nat) : Nat :=
  max lo (min hi n)

/-! ### Ports -/

/-- A port's number (R173). -/
def portNumber : PortId → Nat
  | .p0 => 0
  | .p1 => 1
  | .p2 => 2
  | .p3 => 3

/-- The port a number names; none above 3 (R173). -/
def portOf : Nat → Option PortId
  | 0 => some .p0
  | 1 => some .p1
  | 2 => some .p2
  | 3 => some .p3
  | _ => none

/-- The four ports in order. -/
def allPorts : List PortId := [.p0, .p1, .p2, .p3]

/-! ### Codes of named values (R173) -/

/-- The code of a flag or mark. -/
def flagCode : Bool → Nat
  | false => 0
  | true => 1

/-- The flag or mark a code names. -/
def flagOf : Nat → Option Bool
  | 0 => some false
  | 1 => some true
  | _ => none

/-- The code of a role. -/
def roleCode : Role → Nat
  | .off => 0
  | .call => 1
  | .mgmt => 2
  | .both => 3

/-- The code of a link state. -/
def linkCode : LinkState → Nat
  | .down => 0
  | .up => 1

/-- The code of a line indication. -/
def lineCode : LineIndication → Nat
  | .lost => 0
  | .good => 1

/-- The code of a call class. -/
def classCode : CallClass → Nat
  | .emergency => 0
  | .priority => 1
  | .ordinary => 2
  | .low => 3

/-- The call class a code names. -/
def classOf : Nat → Option CallClass
  | 0 => some .emergency
  | 1 => some .priority
  | 2 => some .ordinary
  | 3 => some .low
  | _ => none

/-- The code of a direction. -/
def directionCode : Direction → Nat
  | .outgoing => 0
  | .incoming => 1
  | .bothway => 2

/-- The direction a code names. -/
def directionOf : Nat → Option Direction
  | 0 => some .outgoing
  | 1 => some .incoming
  | 2 => some .bothway
  | _ => none

/-- The code of a glare rule. -/
def glareCode : GlareRule → Nat
  | .localWins => 0
  | .farWins => 1

/-- The glare rule a code names. -/
def glareOf : Nat → Option GlareRule
  | 0 => some .localWins
  | 1 => some .farWins
  | _ => none

/-- The code of the state of a group; UNDEFINED, the absence of a record, is 0. -/
def groupStateCode : Option GroupState → Nat
  | none => 0
  | some .inService => 1
  | some .draining => 2
  | some .blocked => 3

/-- The code of a circuit state. -/
def circuitStateCode : CircuitState → Nat
  | .idle => 0
  | .reserved => 1
  | .busy => 2
  | .maint => 3

/-- The code of a call record state. -/
def callStateCode : CallState → Nat
  | .reserved => 1
  | .seized => 2
  | .answered => 3
  | .displaced => 4

/-- The name of an agreement state. -/
def agreementName : AgreementState → AgreementName
  | .unset => .unset
  | .offerHeld => .offerHeld
  | .matched _ => .matched
  | .confirmed _ => .confirmed
  | .mismatch => .mismatch

/-- The agreed slot of an agreement state, present in MATCHED and CONFIRMED (R101). -/
def agreedSlot : AgreementState → Option Nat
  | .matched n => some n
  | .confirmed n => some n
  | .unset | .offerHeld | .mismatch => none

/-- The code of an agreement state. -/
def agreementCode : AgreementName → Nat
  | .unset => 0
  | .offerHeld => 1
  | .matched => 2
  | .confirmed => 3
  | .mismatch => 4

/-- The code of a bank. -/
def bankCode : BankId → Nat
  | .a => 0
  | .b => 1

/-- The bank a code names. -/
def bankOf : Nat → Option BankId
  | 0 => some .a
  | 1 => some .b
  | _ => none

/-- The code of a bank state. -/
def bankStateCode : BankState → Nat
  | .active _ _ => 0
  | .collectable _ _ _ => 1
  | .available => 2

/-- The code of a choice kind. -/
def choiceKindCode : Target → Nat
  | .direct _ => 0
  | .chained _ => 1

/-- The number a route choice leads to. -/
def targetNumber : Target → Nat
  | .direct g => g
  | .chained n => n

/-- The target that a choice kind and a number name, in the ranges of R47. -/
def targetOf (kind number : Nat) : Option Target :=
  match kind with
  | 0 => if number ≤ Config.lastGroup then some (.direct number) else none
  | 1 => if number ≤ Config.lastSet then some (.chained number) else none
  | _ => none

/-! ### Results (R171) -/

/-- The result codes. -/
inductive Result where
  | done | adjusted | routed | released | deferred
  | hold | badRequest | notPermitted | badValue | staleHandle | notOwner | wrongState | glare
  | displaced | groupBlocked | circuitBusy | circuitOut | groupInUse | overlap | noRoute
  deriving DecidableEq, Repr

/-- The code of a result. -/
def resultCode : Result → Nat
  | .done => 0x00
  | .adjusted => 0x01
  | .routed => 0x02
  | .released => 0x03
  | .deferred => 0x04
  | .hold => 0x80
  | .badRequest => 0x81
  | .notPermitted => 0x82
  | .badValue => 0x83
  | .staleHandle => 0x84
  | .notOwner => 0x85
  | .wrongState => 0x86
  | .glare => 0x87
  | .displaced => 0x88
  | .groupBlocked => 0x89
  | .circuitBusy => 0x8A
  | .circuitOut => 0x8B
  | .groupInUse => 0x8C
  | .overlap => 0x8D
  | .noRoute => 0x8E

/-- The reasons of a NO_ROUTE. -/
inductive Reason where
  | unroutable | destGapped | congested | allBusy | noEligible
  deriving DecidableEq, Repr

/-- The code of a reason. -/
def reasonCode : Reason → Nat
  | .unroutable => 0
  | .destGapped => 1
  | .congested => 2
  | .allBusy => 3
  | .noEligible => 4

/-- What a block answers: a result and the body that its rule names. -/
structure Reply where
  result : Result
  body : List Byte
  deriving DecidableEq, Repr

/-- A reply without a body: a refusal other than NO_ROUTE, or a success whose rule names no content. -/
def Reply.plain (r : Result) : Reply := ⟨r, []⟩

/-- NO_ROUTE with its reason in one byte. -/
def Reply.noRoute (r : Reason) : Reply := ⟨.noRoute, beBytes 1 (reasonCode r)⟩

/-- DONE, or ADJUSTED where a value was clamped. -/
def doneOr (adjusted : Bool) : Result := if adjusted then .adjusted else .done

/-! ### Notice records (R176) -/

/-- The category code of a notice (R173, R177). -/
def noticeCategory : NoticeBody → Nat
  | .reservationExpired _ _ => 0
  | .displaced _ _ => 0
  | .levelChange _ _ _ => 1
  | .groupDrained _ => 1
  | .destOpened _ => 2
  | .agreementState _ _ => 3
  | .periodClosed _ _ => 4
  | .closeDeferred _ => 4
  | .recordsAdopted _ _ => 5

/-- The kind code of a notice. -/
def noticeKind : NoticeBody → Nat
  | .reservationExpired _ _ => 1
  | .displaced _ _ => 2
  | .levelChange _ _ _ => 3
  | .groupDrained _ => 4
  | .destOpened _ => 5
  | .agreementState _ _ => 6
  | .periodClosed _ _ => 7
  | .closeDeferred _ => 8
  | .recordsAdopted _ _ => 9

/-- The three bytes of fields of a notice; unused bytes are 0. -/
def noticeFields : NoticeBody → List Byte
  | .reservationExpired index gen => beBytes 2 index ++ beBytes 1 gen
  | .displaced index gen => beBytes 2 index ++ beBytes 1 gen
  | .levelChange group old new => beBytes 1 group ++ beBytes 1 old ++ beBytes 1 new
  | .groupDrained group => beBytes 1 group ++ [0, 0]
  | .destOpened dest => beBytes 2 dest ++ [0]
  | .agreementState carrier state => beBytes 1 carrier ++ beBytes 1 (agreementCode state) ++ [0]
  | .periodClosed bank period => beBytes 1 (bankCode bank) ++ beBytes 2 period
  | .closeDeferred period => beBytes 2 period ++ [0]
  | .recordsAdopted fromPort count => beBytes 1 (portNumber fromPort) ++ beBytes 2 count

/-- A notice record as TAKE_NOTICES returns it. -/
def noticeBytes (n : Notice) : List Byte :=
  beBytes 1 (noticeKind n.body) ++ beBytes 4 n.stamp ++ noticeFields n.body

end Sys2Proof.Machine
end

