-- ==== Sys2Proof/Machine/Flags.lean ====
section
/-! DEFINITION. The flags and lines of one port: the notice mask, the notice queue's room, the attention line and the latched flags (R177 to R183), and the transmit line (R159). -/

namespace Sys2Proof.Machine

/-- Whether a port's mask admits the category of a notice (R173, R177). -/
def maskAdmits (q : Port) (b : NoticeBody) : Bool :=
  q.mask.getLsbD (noticeCategory b)

/-- The port with its attention line as R180 states: driven while the link is UP and the notice queue holds a notice. -/
def attended (q : Port) : Port :=
  { q with attention := decide (q.link = .up) && !q.notices.isEmpty }

/-- A notice addressed to a port (R178, R179): not queued while the link is DOWN, the role OFF or the category masked; dropped with NOTICE_LOST latched when 32 notices are queued; otherwise it joins the tail. -/
def offerNotice (n : Notice) (q : Port) : Port :=
  if q.link = .down ∨ q.role = .off then q
  else if !maskAdmits q n.body then q
  else if q.notices.length < Config.maxNotices then attended { q with notices := q.notices ++ [n] }
  else { q with noticeLost := true }

/-- The port with its `n` oldest notices removed (R181). -/
def dropNotices (n : Nat) (q : Port) : Port :=
  attended { q with notices := q.notices.drop n }

/-- The port with every latched flag cleared (R183). -/
def clearFlags (q : Port) : Port :=
  { q with badFrame := false, linkLost := false, noticeLost := false }

/-- What a port's transmit line shows (R159): space while the link is DOWN, mark while it is UP, or the run of characters of a reply frame. -/
inductive TxLine where
  | space | mark | sending
  deriving DecidableEq, Repr

/-- The transmit line of a port. The transmitter sends whenever the reply list holds a frame (R167). -/
def txLine (q : Port) : TxLine :=
  match q.link, q.replies with
  | .down, _ => .space
  | .up, [] => .mark
  | .up, _ :: _ => .sending

/-- How many HOLD replies a port's reply list holds (R156, R164). -/
def holdCount (q : Port) : Nat :=
  q.replies.countP fun f => f.hold

end Sys2Proof.Machine
end

