-- ==== Sys2Proof/Machine/Frames.lean ====
section
/-! DEFINITION. Frames and the catalogue of requests: the frame check (R163), the frame layouts (R161, R162, R174), the 42 kinds with their owners and roles (R169), the body length of each (R170), and which command a request's body asks for (R169, R172, R173, R175). -/

namespace Sys2Proof.Machine

/-! ### The cyclic redundancy check (R163) -/

/-- One bit through the register, generator x^16 + x^12 + x^5 + 1. -/
def crcBit (c : Crc) (bit : Bool) : Crc :=
  let shifted := c <<< 1
  if (c.getLsbD 15) != bit then shifted ^^^ 0x1021#16 else shifted

/-- One byte, most significant bit first. -/
def crcByte (c : Crc) (b : Byte) : Crc :=
  [7, 6, 5, 4, 3, 2, 1, 0].foldl (fun acc i => crcBit acc (b.getLsbD i)) c

/-- The check over a run of bytes, from a register of ones and with no final inversion. -/
def crcOf (bytes : List Byte) : Crc :=
  bytes.foldl crcByte (BitVec.allOnes 16)

/-! ### Frames (R174) -/

/-- The bytes a frame's check covers: tag, code, body length and body. -/
def covered (tag code : Byte) (body : List Byte) : List Byte :=
  tag :: code :: beBytes 2 body.length ++ body

/-- A whole frame behind the given sync byte. -/
def frameOf (sync tag code : Byte) (body : List Byte) : List Byte :=
  sync :: covered tag code body ++ beBytes 2 (crcOf (covered tag code body)).toNat

/-- The request frame a master sends. -/
def requestFrame (tag kind : Byte) (body : List Byte) : List Byte :=
  frameOf 0xA5 tag kind body

/-- The reply frame the part sends. -/
def replyFrame (tag : Byte) (r : Reply) : List Byte :=
  frameOf 0x5A tag (BitVec.ofNat 8 (resultCode r.result)) r.body

/-- The body length that a frame's header declares (R161). -/
def declaredLength (bytes : List Byte) : Nat := field bytes 3 2

/-- Whether an arriving frame passes every check of R162. `stopFault` says that a character of it had a faulty stop element. -/
def intact (bytes : List Byte) (stopFault : Bool) : Bool :=
  !stopFault && decide (7 ≤ bytes.length) && decide (bytes.length ≤ 255)
    && decide (bytes.head? = some 0xA5)
    && decide (bytes.length = 7 + declaredLength bytes)
    && decide (field bytes (5 + declaredLength bytes) 2
        = (crcOf ((bytes.drop 1).take (4 + declaredLength bytes))).toNat)

/-- The request that an intact frame carries. -/
def requestOf (bytes : List Byte) : Request :=
  ⟨bytes.getD 1 0, bytes.getD 2 0, (bytes.drop 5).take (declaredLength bytes)⟩

/-! ### The catalogue (R169) -/

/-- The nine blocks (00_scope.md). -/
inductive Block where
  | pct | cpl | crt | rse | cmn | cau | hru | sts | tmb
  deriving DecidableEq, Repr

/-- The 42 kinds of request. -/
inductive Kind where
  | route | confirm | answer | release | reroute | queryCall
  | farCongestion | farClear
  | defineGroup | setGroupState | setReserve | circuitMaint | readGroup
  | writeDest | writeRouteSet | maskChoice | setFirst | readDest
  | writeProfile | setPeriod | readCongestion
  | writeLocalOffer | writeCarrierOffer | confirmAgreement | withdrawAgreement | readAgreement
  | writeTariff | readTariff | writeBands
  | closePeriod | setAutoClose | readBank | releaseBank
  | setTime | readTime | setGuard
  | takeNotices | setNoticeMask | portStatus | adoptPort | exchangeRestart | identify
  deriving DecidableEq, Repr

/-- The code of a kind. -/
def kindCode : Kind → Nat
  | .route => 0x10
  | .confirm => 0x11
  | .answer => 0x12
  | .release => 0x13
  | .reroute => 0x14
  | .queryCall => 0x15
  | .farCongestion => 0x18
  | .farClear => 0x19
  | .defineGroup => 0x20
  | .setGroupState => 0x21
  | .setReserve => 0x22
  | .circuitMaint => 0x23
  | .readGroup => 0x24
  | .writeDest => 0x28
  | .writeRouteSet => 0x29
  | .maskChoice => 0x2A
  | .setFirst => 0x2B
  | .readDest => 0x2C
  | .writeProfile => 0x30
  | .setPeriod => 0x31
  | .readCongestion => 0x32
  | .writeLocalOffer => 0x38
  | .writeCarrierOffer => 0x39
  | .confirmAgreement => 0x3A
  | .withdrawAgreement => 0x3B
  | .readAgreement => 0x3C
  | .writeTariff => 0x40
  | .readTariff => 0x41
  | .writeBands => 0x42
  | .closePeriod => 0x43
  | .setAutoClose => 0x44
  | .readBank => 0x45
  | .releaseBank => 0x46
  | .setTime => 0x48
  | .readTime => 0x49
  | .setGuard => 0x4A
  | .takeNotices => 0x50
  | .setNoticeMask => 0x51
  | .portStatus => 0x52
  | .adoptPort => 0x53
  | .exchangeRestart => 0x54
  | .identify => 0x55

/-- The kind a code names; none for a code that is not in the catalogue. -/
def kindOf : Nat → Option Kind
  | 0x10 => some .route
  | 0x11 => some .confirm
  | 0x12 => some .answer
  | 0x13 => some .release
  | 0x14 => some .reroute
  | 0x15 => some .queryCall
  | 0x18 => some .farCongestion
  | 0x19 => some .farClear
  | 0x20 => some .defineGroup
  | 0x21 => some .setGroupState
  | 0x22 => some .setReserve
  | 0x23 => some .circuitMaint
  | 0x24 => some .readGroup
  | 0x28 => some .writeDest
  | 0x29 => some .writeRouteSet
  | 0x2A => some .maskChoice
  | 0x2B => some .setFirst
  | 0x2C => some .readDest
  | 0x30 => some .writeProfile
  | 0x31 => some .setPeriod
  | 0x32 => some .readCongestion
  | 0x38 => some .writeLocalOffer
  | 0x39 => some .writeCarrierOffer
  | 0x3A => some .confirmAgreement
  | 0x3B => some .withdrawAgreement
  | 0x3C => some .readAgreement
  | 0x40 => some .writeTariff
  | 0x41 => some .readTariff
  | 0x42 => some .writeBands
  | 0x43 => some .closePeriod
  | 0x44 => some .setAutoClose
  | 0x45 => some .readBank
  | 0x46 => some .releaseBank
  | 0x48 => some .setTime
  | 0x49 => some .readTime
  | 0x4A => some .setGuard
  | 0x50 => some .takeNotices
  | 0x51 => some .setNoticeMask
  | 0x52 => some .portStatus
  | 0x53 => some .adoptPort
  | 0x54 => some .exchangeRestart
  | 0x55 => some .identify
  | _ => none

/-- The block that serves a kind. -/
def kindOwner : Kind → Block
  | .route | .reroute | .farCongestion | .farClear | .writeDest | .writeRouteSet | .maskChoice
  | .setFirst | .readDest => .rse
  | .confirm | .answer | .release | .queryCall | .setGuard | .adoptPort | .exchangeRestart => .crt
  | .defineGroup | .setGroupState | .setReserve | .circuitMaint | .readGroup => .cpl
  | .writeProfile | .setPeriod | .readCongestion => .cmn
  | .writeLocalOffer | .writeCarrierOffer | .confirmAgreement | .withdrawAgreement
  | .readAgreement => .cau
  | .writeTariff | .readTariff | .writeBands => .hru
  | .closePeriod | .setAutoClose | .readBank | .releaseBank => .sts
  | .setTime | .readTime => .tmb
  | .takeNotices | .setNoticeMask | .portStatus | .identify => .pct

/-- Whether the catalogue permits a kind to a role. No kind is permitted to an OFF port. -/
def permits : Kind → Role → Bool
  | .route, r | .confirm, r | .answer, r | .release, r | .reroute, r =>
    decide (r = .call ∨ r = .both)
  | .queryCall, r | .farCongestion, r | .farClear, r | .readGroup, r | .readDest, r
  | .readCongestion, r | .readAgreement, r | .readTariff, r | .readBank, r | .readTime, r
  | .takeNotices, r | .setNoticeMask, r | .portStatus, r | .identify, r => decide (r ≠ .off)
  | .defineGroup, r | .setGroupState, r | .setReserve, r | .circuitMaint, r | .writeDest, r
  | .writeRouteSet, r | .maskChoice, r | .setFirst, r | .writeProfile, r | .setPeriod, r
  | .writeLocalOffer, r | .writeCarrierOffer, r | .confirmAgreement, r | .withdrawAgreement, r
  | .writeTariff, r | .writeBands, r | .closePeriod, r | .setAutoClose, r | .releaseBank, r
  | .setTime, r | .setGuard, r | .adoptPort, r | .exchangeRestart, r =>
    decide (r = .mgmt ∨ r = .both)

/-! ### Body lengths (R170) -/

/-- What R170 asks of a body's length: one length, no length because the body is too short to hold the field it depends on, or any length because the form is unknown. -/
inductive LengthRule where
  | exactly (n : Nat)
  | tooShort
  | anyLength
  deriving DecidableEq, Repr

/-- A length that depends on a field: `rule` where the body has the `n` bytes that hold it. -/
def lengthFrom (body : List Byte) (n : Nat) (rule : LengthRule) : LengthRule :=
  if body.length < n then .tooShort else rule

/-- How many bytes the maintenance flags of `count` circuits take (R172). -/
def maintLength (count : Nat) : Nat := (count + 7) / 8

/-- The length that a kind requires of a body (R170). A kind of one fixed length keeps it whatever form its body names (SET_GROUP_STATE, CIRCUIT_MAINT, READ_DEST, SET_AUTO_CLOSE), so an unknown form in a body of another length is BAD_REQUEST; only where the length depends on the form does an unknown form pass with any length. DEDUCED: log entry 18. -/
def requiredLength (kind : Kind) (body : List Byte) : LengthRule :=
  match kind with
  | .closePeriod | .readTime | .takeNotices | .exchangeRestart | .identify => .exactly 0
  | .setPeriod | .withdrawAgreement | .releaseBank | .setGuard | .setNoticeMask | .portStatus =>
    .exactly 1
  | .farClear | .setGroupState | .confirmAgreement | .readAgreement | .adoptPort => .exactly 2
  | .confirm | .answer | .release | .reroute | .queryCall | .setReserve | .circuitMaint | .setFirst
  | .readDest | .readBank => .exactly 3
  | .maskChoice | .setAutoClose => .exactly 4
  | .route => .exactly 5
  | .farCongestion => .exactly 6
  | .setTime => .exactly 7
  | .writeProfile => .exactly 10
  | .writeTariff => .exactly 19
  | .defineGroup =>
    lengthFrom body 2 <|
      match field body 1 1 with
      | 0 => lengthFrom body 6 (.exactly (12 + maintLength (field body 4 2)))
      | 1 => .exactly 2
      | _ => .anyLength
  | .readGroup =>
    lengthFrom body 2 <|
      match field body 1 1 with
      | 0 => .exactly 2
      | 1 => .exactly 5
      | 2 => .exactly 5
      | _ => .anyLength
  | .readCongestion =>
    lengthFrom body 1 <|
      match field body 0 1 with
      | 0 => .exactly 3
      | 1 => .exactly 2
      | 2 => .exactly 1
      | _ => .anyLength
  | .readTariff =>
    lengthFrom body 1 <|
      match field body 0 1 with
      | 0 => .exactly 4
      | 1 => .exactly 2
      | _ => .anyLength
  | .writeDest => lengthFrom body 4 (.exactly (4 + 5 * field body 3 1))
  | .writeRouteSet => lengthFrom body 3 (.exactly (3 + 3 * field body 2 1))
  | .writeLocalOffer | .writeCarrierOffer => lengthFrom body 2 (.exactly (2 + field body 1 1))
  | .writeBands => lengthFrom body 1 (.exactly (1 + 4 * field body 0 1))

/-- Whether a body's length is the one its kind requires (step 2 of R165). -/
def lengthOk (kind : Kind) (body : List Byte) : Bool :=
  match requiredLength kind body with
  | .exactly n => decide (body.length = n)
  | .tooShort => false
  | .anyLength => true

/-- How PCT answers a new head that it does not hand on, by the three checks of R165 in order; none for a head that passes. -/
def headRefusal (role : Role) (q : Request) : Option Result :=
  match kindOf q.kind.toNat with
  | none => some .badRequest
  | some k =>
    if !lengthOk k q.body then some .badRequest
    else if !permits k role then some .notPermitted
    else none

/-- Whether RSE owns a request (R57, R169). -/
def ownedByEngine (q : Request) : Bool :=
  match kindOf q.kind.toNat with
  | some k => decide (kindOwner k = .rse)
  | none => false

/-! ### Bodies of requests (R169, R172, R175) -/

/-- The circuits that the flags of a maintenance set mark, the first flag for circuit `first` (R172). -/
def maintOf : Nat → List Byte → List Nat
  | _, [] => []
  | first, b :: rest =>
    ([0, 1, 2, 3, 4, 5, 6, 7].filter fun j => b.getLsbD (7 - j)).map (first + ·)
      ++ maintOf (first + 8) rest

/-- `n` consecutive entries of `w` bytes each, from the start of `body`. -/
def entriesOf {α : Type} (entry : List Byte → α) (w : Nat) : Nat → List Byte → List α
  | 0, _ => []
  | n + 1, body => entry (body.take w) :: entriesOf entry w n (body.drop w)

/-- The inbound circuit of ROUTE: absent when every bit is set (R172, R175). -/
def inboundOf (n : Nat) : Option Nat := if n = 0xFFFF then none else some n

/-- The command that serves a request of the given kind and body. Which row serves a form that the kind does not know: log entry 6. -/
def commandOf (r : Requester) (kind : Kind) (body : List Byte) : Instr :=
  match kind with
  | .route => .route r (field body 0 2) (field body 2 1) (inboundOf (field body 3 2))
  | .confirm => .confirm r (field body 0 2) (field body 2 1)
  | .answer => .answer r (field body 0 2) (field body 2 1)
  | .release => .release r (field body 0 2) (field body 2 1)
  | .reroute => .reroute r (field body 0 2) (field body 2 1)
  | .queryCall => .queryCall r (field body 0 2) (field body 2 1)
  | .farCongestion => .farCongestion r (field body 0 2) (field body 2 2) (field body 4 2)
  | .farClear => .farClear r (field body 0 2)
  | .defineGroup =>
    match field body 1 1 with
    | 0 => .defineGroupDefine r (field body 0 1)
        { first := field body 2 2, count := field body 4 2, direction := field body 6 1,
          carrier := field body 7 1, glare := field body 8 1, reserve := field body 9 2,
          profile := field body 11 1, maint := maintOf (field body 2 2) (body.drop 12) }
    | form => .defineGroupRemove r (field body 0 1) form
  | .setGroupState =>
    match field body 1 1 with
    | 0 => .setGroupStateBlock r (field body 0 1)
    | form => .setGroupStateUnblock r (field body 0 1) form
  | .setReserve => .setReserve r (field body 0 1) (field body 1 2)
  | .circuitMaint =>
    match field body 2 1 with
    | 0 => .circuitMaintOut r (field body 0 2)
    | form => .circuitMaintReturn r (field body 0 2) form
  | .readGroup =>
    match field body 1 1 with
    | 1 => .readGroupCircuit r (field body 0 1) (field body 2 2) (field body 4 1)
    | 2 => .readGroupFreeList r (field body 0 1) (field body 2 2) (field body 4 1)
    | form => .readGroupSummary r (field body 0 1) form
  | .writeDest => .writeDest r (field body 0 2) (body.getD 2 0)
      (entriesOf (fun e => ⟨field e 0 1, field e 1 2, field e 3 1, field e 4 1⟩) 5 (field body 3 1) (body.drop 4))
  | .writeRouteSet => .writeRouteSet r (field body 0 2)
      (entriesOf (fun e => ⟨field e 0 1, field e 1 2⟩) 3 (field body 2 1) (body.drop 3))
  | .maskChoice => .maskChoice r (field body 0 2) (field body 2 1) (field body 3 1)
  | .setFirst => .setFirst r (field body 0 2) (field body 2 1)
  | .readDest =>
    match field body 0 1 with
    | 0 => .readDestDestination r (field body 1 2)
    | form => .readDestRouteSet r form (field body 1 2)
  | .writeProfile => .writeProfile r (field body 0 1)
      ⟨field body 1 2, field body 3 2, field body 5 2, field body 7 2, field body 9 1⟩
  | .setPeriod => .setPeriod r (field body 0 1)
  | .readCongestion =>
    match field body 0 1 with
    | 0 => .readCongestionGroup r (field body 1 1) (field body 2 1)
    | 1 => .readCongestionProfile r (field body 1 1)
    | form => .readCongestionPeriod r form
  | .writeLocalOffer => .writeLocalOffer r (field body 0 1)
      (entriesOf (fun e => field e 0 1) 1 (field body 1 1) (body.drop 2))
  | .writeCarrierOffer => .writeCarrierOffer r (field body 0 1)
      (entriesOf (fun e => field e 0 1) 1 (field body 1 1) (body.drop 2))
  | .confirmAgreement => .confirmAgreement r (field body 0 1) (field body 1 1)
  | .withdrawAgreement => .withdrawAgreement r (field body 0 1)
  | .readAgreement => .readAgreement r (field body 0 1) (field body 1 1)
  | .writeTariff => .writeTariff r (field body 0 1) (field body 1 1)
      { setup := field body 2 2, step := field body 4 2, minSteps := field body 6 2,
        rate0 := field body 8 2, rate1 := field body 10 2, rate2 := field body 12 2,
        rate3 := field body 14 2, surcharge1 := field body 16 1, surcharge2 := field body 17 1,
        surcharge3 := field body 18 1 }
  | .readTariff =>
    match field body 0 1 with
    | 0 => .readTariffClass r (field body 1 1) (field body 2 1) (field body 3 1)
    | form => .readTariffBand r form (field body 1 1)
  | .writeBands => .writeBands r
      (entriesOf (fun e => ⟨field e 0 3, field e 3 1⟩) 4 (field body 0 1) (body.drop 1))
  | .closePeriod => .closePeriod r
  | .setAutoClose =>
    match field body 0 1 with
    | 0 => .setAutoCloseOff r
    | form => .setAutoCloseSecond r form (field body 1 3)
  | .readBank => .readBank r (field body 0 1) (field body 1 1) (field body 2 1)
  | .releaseBank => .releaseBank r (field body 0 1)
  | .setTime => .setTime r (field body 0 2) (field body 2 3) (field body 5 2)
  | .readTime => .readTime r
  | .setGuard => .setGuard r (field body 0 1)
  | .takeNotices => .takeNotices r
  | .setNoticeMask => .setNoticeMask r (body.getD 0 0)
  | .portStatus => .portStatus r (field body 0 1)
  | .adoptPort => .adoptPort r (field body 0 1) (field body 1 1)
  | .exchangeRestart => .exchangeRestart r
  | .identify => .identify r

/-- Whether a request asks for the given command on behalf of `r`. -/
def asksFor (r : Requester) (c : Instr) (q : Request) : Bool :=
  match kindOf q.kind.toNat with
  | some k => decide (commandOf r k q.body = c)
  | none => false

/-! ### The bodies that masters write for the commands -/

/-- A byte whose bit `7 - j` is `f j`. -/
def flagByte (f : Nat → Bool) : Byte :=
  [0, 1, 2, 3, 4, 5, 6, 7].foldl (fun b j => (b <<< 1) ||| (if f j then 1 else 0)) 0

/-- `n` bytes of maintenance flags from circuit `first` on (R172). -/
def maintBytes (first : Nat) (maint : List Nat) : Nat → List Byte
  | 0 => []
  | n + 1 => flagByte (fun j => decide (first + j ∈ maint)) :: maintBytes (first + 8) maint n

/-- The kind and body of the request that asks for a command; none for an event. -/
def bodyOf : Instr → Option (Kind × List Byte)
  | .powerOnReset _ | .millisecondTick | .lineIndicationLost _ | .lineIndicationGood _ | .linkUp _
  | .frameArrival _ _ _ | .engineGrant | .replySent _ | .guardExpiry _ | .gapExpiry _
  | .restrictionEnd _ | .periodEnd | .automaticClose => none
  | .route _ dest cls inbound =>
    some (.route, beBytes 2 dest ++ beBytes 1 cls ++ optBytes 2 inbound)
  | .confirm _ index gen => some (.confirm, beBytes 2 index ++ beBytes 1 gen)
  | .answer _ index gen => some (.answer, beBytes 2 index ++ beBytes 1 gen)
  | .release _ index gen => some (.release, beBytes 2 index ++ beBytes 1 gen)
  | .reroute _ index gen => some (.reroute, beBytes 2 index ++ beBytes 1 gen)
  | .queryCall _ index gen => some (.queryCall, beBytes 2 index ++ beBytes 1 gen)
  | .setGuard _ seconds => some (.setGuard, beBytes 1 seconds)
  | .adoptPort _ f t => some (.adoptPort, beBytes 1 f ++ beBytes 1 t)
  | .exchangeRestart _ => some (.exchangeRestart, [])
  | .defineGroupDefine _ group a =>
    some (.defineGroup, beBytes 1 group ++ beBytes 1 0 ++ beBytes 2 a.first ++ beBytes 2 a.count
      ++ beBytes 1 a.direction ++ beBytes 1 a.carrier ++ beBytes 1 a.glare ++ beBytes 2 a.reserve
      ++ beBytes 1 a.profile ++ maintBytes a.first a.maint (maintLength a.count))
  | .defineGroupRemove _ group form => some (.defineGroup, beBytes 1 group ++ beBytes 1 form)
  | .setGroupStateBlock _ group => some (.setGroupState, beBytes 1 group ++ beBytes 1 0)
  | .setGroupStateUnblock _ group form => some (.setGroupState, beBytes 1 group ++ beBytes 1 form)
  | .setReserve _ group reserve => some (.setReserve, beBytes 1 group ++ beBytes 2 reserve)
  | .circuitMaintOut _ circuit => some (.circuitMaint, beBytes 2 circuit ++ beBytes 1 0)
  | .circuitMaintReturn _ circuit form => some (.circuitMaint, beBytes 2 circuit ++ beBytes 1 form)
  | .readGroupSummary _ group form => some (.readGroup, beBytes 1 group ++ beBytes 1 form)
  | .readGroupCircuit _ group start n =>
    some (.readGroup, beBytes 1 group ++ beBytes 1 1 ++ beBytes 2 start ++ beBytes 1 n)
  | .readGroupFreeList _ group start n =>
    some (.readGroup, beBytes 1 group ++ beBytes 1 2 ++ beBytes 2 start ++ beBytes 1 n)
  | .writeDest _ dest rotate choices =>
    some (.writeDest, beBytes 2 dest ++ [rotate] ++ beBytes 1 choices.length
      ++ choices.flatMap fun c => beBytes 1 c.kind ++ beBytes 2 c.target ++ beBytes 1 c.rank ++ beBytes 1 c.mask)
  | .writeRouteSet _ set entries =>
    some (.writeRouteSet, beBytes 2 set ++ beBytes 1 entries.length
      ++ entries.flatMap fun e => beBytes 1 e.kind ++ beBytes 2 e.number)
  | .maskChoice _ dest position mask =>
    some (.maskChoice, beBytes 2 dest ++ beBytes 1 position ++ beBytes 1 mask)
  | .setFirst _ dest position => some (.setFirst, beBytes 2 dest ++ beBytes 1 position)
  | .readDestDestination _ dest => some (.readDest, beBytes 1 0 ++ beBytes 2 dest)
  | .readDestRouteSet _ form set => some (.readDest, beBytes 1 form ++ beBytes 2 set)
  | .farCongestion _ dest gap duration =>
    some (.farCongestion, beBytes 2 dest ++ beBytes 2 gap ++ beBytes 2 duration)
  | .farClear _ dest => some (.farClear, beBytes 2 dest)
  | .writeProfile _ profile a =>
    some (.writeProfile, beBytes 1 profile ++ beBytes 2 a.u1 ++ beBytes 2 a.u2 ++ beBytes 2 a.u3
      ++ beBytes 2 a.hysteresis ++ beBytes 1 a.shift)
  | .setPeriod _ code => some (.setPeriod, beBytes 1 code)
  | .readCongestionGroup _ first count =>
    some (.readCongestion, beBytes 1 0 ++ beBytes 1 first ++ beBytes 1 count)
  | .readCongestionProfile _ profile => some (.readCongestion, beBytes 1 1 ++ beBytes 1 profile)
  | .readCongestionPeriod _ form => some (.readCongestion, beBytes 1 form)
  | .writeLocalOffer _ carrier slots =>
    some (.writeLocalOffer, beBytes 1 carrier ++ beBytes 1 slots.length ++ slots.flatMap (beBytes 1))
  | .writeCarrierOffer _ carrier slots =>
    some (.writeCarrierOffer, beBytes 1 carrier ++ beBytes 1 slots.length ++ slots.flatMap (beBytes 1))
  | .confirmAgreement _ carrier slot => some (.confirmAgreement, beBytes 1 carrier ++ beBytes 1 slot)
  | .withdrawAgreement _ carrier => some (.withdrawAgreement, beBytes 1 carrier)
  | .readAgreement _ first count => some (.readAgreement, beBytes 1 first ++ beBytes 1 count)
  | .writeTariff _ carrier slot a =>
    some (.writeTariff, beBytes 1 carrier ++ beBytes 1 slot ++ beBytes 2 a.setup ++ beBytes 2 a.step
      ++ beBytes 2 a.minSteps ++ beBytes 2 a.rate0 ++ beBytes 2 a.rate1 ++ beBytes 2 a.rate2
      ++ beBytes 2 a.rate3 ++ beBytes 1 a.surcharge1 ++ beBytes 1 a.surcharge2 ++ beBytes 1 a.surcharge3)
  | .writeBands _ points =>
    some (.writeBands, beBytes 1 points.length
      ++ points.flatMap fun p => beBytes 3 p.second ++ beBytes 1 p.band)
  | .readTariffClass _ copy carrier slot =>
    some (.readTariff, beBytes 1 0 ++ beBytes 1 copy ++ beBytes 1 carrier ++ beBytes 1 slot)
  | .readTariffBand _ form copy => some (.readTariff, beBytes 1 form ++ beBytes 1 copy)
  | .closePeriod _ => some (.closePeriod, [])
  | .setAutoCloseOff _ => some (.setAutoClose, beBytes 1 0 ++ beBytes 3 0)
  | .setAutoCloseSecond _ form second => some (.setAutoClose, beBytes 1 form ++ beBytes 3 second)
  | .readBank _ bank first count =>
    some (.readBank, beBytes 1 bank ++ beBytes 1 first ++ beBytes 1 count)
  | .releaseBank _ bank => some (.releaseBank, beBytes 1 bank)
  | .setTime _ day second milli =>
    some (.setTime, beBytes 2 day ++ beBytes 3 second ++ beBytes 2 milli)
  | .readTime _ => some (.readTime, [])
  | .takeNotices _ => some (.takeNotices, [])
  | .setNoticeMask _ mask => some (.setNoticeMask, [mask])
  | .portStatus _ port => some (.portStatus, beBytes 1 port)
  | .identify _ => some (.identify, [])

end Sys2Proof.Machine
end

