-- ==== Sys2Proof/Machine/Ops.lean ====
section
/-! DEFINITION. The named operations over the state that the meanings share: reading and writing one port or one table entry, raising a notice (R178), the engine's freedom (R57), and serving a request: which request stands in service, and what becomes of the reply (R160, R166, R167). -/

namespace Sys2Proof.Machine

/-! ### Ports -/

/-- The state of a port. -/
def State.port (s : State) : PortId → Port
  | .p0 => s.pct.p0
  | .p1 => s.pct.p1
  | .p2 => s.pct.p2
  | .p3 => s.pct.p3

/-- The state with a port's state replaced. -/
def State.setPort (s : State) (p : PortId) (q : Port) : State :=
  { s with pct :=
      match p with
      | .p0 => { s.pct with p0 := q }
      | .p1 => { s.pct with p1 := q }
      | .p2 => { s.pct with p2 := q }
      | .p3 => { s.pct with p3 := q } }

/-- The state with every port changed in the same way. -/
def State.mapPorts (s : State) (f : Port → Port) : State :=
  { s with pct := ⟨f s.pct.p0, f s.pct.p1, f s.pct.p2, f s.pct.p3⟩ }

/-! ### Time -/

/-- The running time (R146). -/
def State.now (s : State) : Nat := s.tmb.running

/-- The stamp a notice raised now carries: the low 32 bits of the running time (R154). -/
def State.noticeStamp (s : State) : Nat := s.now % 4294967296

/-- The stamp of a bank opened or closed now (R132, R148). -/
def State.bankStamp (s : State) : Stamp := ⟨s.tmb.day, s.tmb.second⟩

/-! ### Notices (R178) -/

/-- Raise a notice addressed to every port. -/
def State.raiseAll (s : State) (b : NoticeBody) : State :=
  s.mapPorts (offerNotice ⟨b, s.noticeStamp⟩)

/-- Raise a notice addressed to one port. -/
def State.raiseTo (s : State) (p : PortId) (b : NoticeBody) : State :=
  s.setPort p (offerNotice ⟨b, s.noticeStamp⟩ (s.port p))

/-! ### Entries of the tables -/

/-- A trunk group record; none for an UNDEFINED group (R1). -/
def State.group (s : State) (g : Nat) : Option Group :=
  Table.get none s.cpl.groups g

/-- Write a trunk group record. -/
def State.setGroup (s : State) (g : Nat) (r : Option Group) : State :=
  { s with cpl := { s.cpl with groups := Table.set none s.cpl.groups g r } }

/-- The state and mark of a circuit of a defined group (R2, R3). -/
def State.circuit (s : State) (c : Nat) : Circuit :=
  Table.get Circuit.idle s.cpl.circuits c

/-- Write a circuit's state and mark. -/
def State.setCircuit (s : State) (c : Nat) (v : Circuit) : State :=
  { s with cpl := { s.cpl with circuits := Table.set Circuit.idle s.cpl.circuits c v } }

/-- Whether a group's range holds a circuit (R1, R2). -/
def groupHolds (c : Nat) (r : Group) : Bool :=
  decide (r.first ≤ c) && decide (c < r.first + r.count)

/-- The group whose range holds a circuit; none for an unassigned circuit (R2). -/
def State.groupOf (s : State) (c : Nat) : Option Nat :=
  (s.cpl.groups.find? fun e => e.2.any (groupHolds c)).map (·.1)

/-- A live call record; none for a free one (R24). -/
def State.call (s : State) (i : Nat) : Option CallRecord :=
  Table.get none s.crt.calls i

/-- Write a call record. -/
def State.setCall (s : State) (i : Nat) (r : Option CallRecord) : State :=
  { s with crt := { s.crt with calls := Table.set none s.crt.calls i r } }

/-- The generation of a call record (R25). -/
def State.gen (s : State) (i : Nat) : Nat :=
  Table.get 0 s.crt.gens i

/-- A destination record (R46). -/
def State.dest (s : State) (d : Nat) : Dest :=
  Table.get Dest.reset s.rse.dests d

/-- Write a destination record. -/
def State.setDest (s : State) (d : Nat) (r : Dest) : State :=
  { s with rse := { s.rse with dests := Table.set Dest.reset s.rse.dests d r } }

/-- The groups of a route set; empty for a set not written (R48). -/
def State.routeSet (s : State) (n : Nat) : List Nat :=
  Table.get [] s.rse.sets n

/-- CMN's record of a group number (R84). -/
def State.congestion (s : State) (g : Nat) : CongestionRecord :=
  Table.get CongestionRecord.zero s.cmn.records g

/-- Write CMN's record of a group number. -/
def State.setCongestion (s : State) (g : Nat) (r : CongestionRecord) : State :=
  { s with cmn := { s.cmn with records := Table.set CongestionRecord.zero s.cmn.records g r } }

/-- The agreement record of a carrier (R101). -/
def State.agreement (s : State) (c : Nat) : Agreement :=
  Table.get Agreement.reset s.cau.records c

/-- Write the agreement record of a carrier. -/
def State.setAgreement (s : State) (c : Nat) (r : Agreement) : State :=
  { s with cau := { s.cau with records := Table.set Agreement.reset s.cau.records c r } }

/-- The place of a carrier's slot in the tariff table (R115). -/
def tariffKey (carrier slot : Nat) : Nat := carrier * 4 + slot

/-- The in-force tariff class of a carrier and slot (R115). -/
def State.tariff (s : State) (carrier slot : Nat) : TariffClass :=
  Table.get resetTariff s.hru.inForce (tariffKey carrier slot)

/-- The pending tariff class of a carrier and slot (R115). -/
def State.pendingTariff (s : State) (carrier slot : Nat) : TariffClass :=
  Table.get resetTariff s.hru.pendingClasses (tariffKey carrier slot)

/-- Write the pending tariff class of a carrier and slot. -/
def State.setPendingTariff (s : State) (carrier slot : Nat) (t : TariffClass) : State :=
  let classes := Table.set resetTariff s.hru.pendingClasses (tariffKey carrier slot) t
  { s with hru := { s.hru with pendingClasses := classes } }

/-- A settlement bank (R132). -/
def State.bank (s : State) : BankId → Bank
  | .a => s.sts.bankA
  | .b => s.sts.bankB

/-- Write a settlement bank. -/
def State.setBank (s : State) (k : BankId) (b : Bank) : State :=
  { s with sts :=
      match k with
      | .a => { s.sts with bankA := b }
      | .b => { s.sts with bankB := b } }

/-- The bank that is not `k`. -/
def otherBank : BankId → BankId
  | .a => .b
  | .b => .a

/-- A bank's record of a carrier (R133). -/
def Bank.record (b : Bank) (carrier : Nat) : SettlementRecord :=
  Table.get SettlementRecord.zero b.records carrier

/-! ### Serving a request -/

/-- The head stage at running time `now` (R156). A head that PCT has checked and that RSE does not own is handed to its block by the end of the millisecond in which it became head, so from the next one on it is in service (R166). Until then it is checked, and a link loss that meets the event that made it head discards it (rows 4 and 5 of R168). DESIGN CHOICE, log entry 14. -/
def Port.headStage (now : Nat) (q : Port) : HeadStage :=
  if q.stage = .checked ∧ q.headAt < now then .inService else q.stage

/-- Whether the head of a port's FIFO stands with its owning block and satisfies `f`: in service, or checked and handed on in the event that serves it (R156, R166). -/
def headInService (q : Port) (f : Request → Bool) : Bool :=
  decide (q.stage = .inService ∨ q.stage = .checked) && q.fifo.head?.any f

/-- Whether the request of `r` that asks for the command `c` stands in service: at the head of its port's FIFO (R166), or left with its owning block by a link loss (R160). -/
def State.inService (s : State) (r : Requester) (c : Instr) : Bool :=
  match r with
  | .head p => headInService (s.port p) (asksFor r c)
  | .detached p => (s.port p).detached.any (asksFor r c)

/-- The reply of the head in service joins the tail of the reply list, and the head stage becomes answered (R167). -/
def answerHead (a : Reply) (q : Port) : Port :=
  match q.fifo with
  | [] => q
  | h :: _ => { q with stage := .answered, replies := q.replies ++ [⟨false, replyFrame h.tag a⟩] }

/-- What becomes of a reply: a head's joins its port's reply list (R167), and that of a request whose link was lost is discarded with the request (R160). -/
def State.deliver (s : State) (r : Requester) (c : Instr) (a : Reply) : State :=
  match r with
  | .head p => s.setPort p (answerHead a (s.port p))
  | .detached p =>
    s.setPort p { s.port p with detached := (s.port p).detached.eraseP (asksFor r c) }

/-- Serve a request whole, as one event (R57, R166): where the request that asks for `c` stands in service, the owning block's effect and reply `f` take place and the reply is delivered. Where no such request stands in service the event does not occur (log entry 3). -/
def serve (r : Requester) (c : Instr) (f : State → Reply × State) (s : State) :
    Host.Outcome State Fault Refusal :=
  if s.inService r c then .next ((f s).2.deliver r c (f s).1) else .next s

/-- An event of the part that takes place when its condition holds. Where it does not, the event does not occur (log entry 3). -/
def eventWhen (due : Bool) (f : State → State) (s : State) : Host.Outcome State Fault Refusal :=
  if due then .next (f s) else .next s

/-! ### The engine (R57, R58) -/

/-- Whether a port has a request of RSE's in service, at its head or detached. -/
def engineServes (q : Port) : Bool :=
  headInService q ownedByEngine || q.detached.any ownedByEngine

/-- The engine is free when it has no request in service. -/
def State.engineFree (s : State) : Bool :=
  !(allPorts.any fun p => engineServes (s.port p))

/-- The ports in the cyclic order that begins after `p`. -/
def portsAfter : PortId → List PortId
  | .p0 => [.p1, .p2, .p3, .p0]
  | .p1 => [.p2, .p3, .p0, .p1]
  | .p2 => [.p3, .p0, .p1, .p2]
  | .p3 => [.p0, .p1, .p2, .p3]

/-- The waiting port that comes next after the grant pointer. -/
def State.nextWaiting (s : State) : Option PortId :=
  (portsAfter s.rse.pointer).find? fun p => decide ((s.port p).stage = .waiting)

end Sys2Proof.Machine
end

