-- ==== Sys2Proof/Machine/Rating.lean ====
section
/-! DEFINITION. Handover rating (spec file 07): the band lookup (R120), the rating of a leg (R124 to R129), and the requests on tariff classes and band tables (R117, R119, R122). -/

namespace Sys2Proof.Machine

/-! ### Bands (R120) -/

/-- The band in force at a second of day, from a band table. -/
def bandAt (points : List SwitchPoint) (second : Nat) : Nat :=
  match (points.filter fun p => decide (p.second ≤ second)).getLast? with
  | some p => p.band
  | none =>
    match points.getLast? with
    | some p => p.band
    | none => 0

/-- The band in force at the present time of day. -/
def State.bandNow (s : State) : Nat := bandAt s.hru.bands s.tmb.second

/-! ### Rating a leg (R123 to R129) -/

/-- The two kinds of leg (R123). -/
inductive LegKind where
  | payable | receivable
  deriving DecidableEq, Repr

/-- A rated leg, as it goes to the Settlement Store and into the RELEASED reply (R130, R36). -/
structure RatedLeg where
  kind : LegKind
  carrier : Nat
  slot : Nat
  answered : Bool
  charge : Nat
  steps : Nat
  longCall : Bool
  deriving DecidableEq, Repr

/-- The duration that an answered leg is rated for: clamped to 24 hours (R125). -/
def ratedDuration (elapsed : Nat) : Nat := min elapsed Config.maxDuration

/-- The charged steps of a duration (R126). -/
def chargedSteps (t : TariffClass) (duration : Nat) : Nat :=
  max ((duration + 1000 * t.step - 1) / (1000 * t.step)) t.minSteps

/-- The step rate of a class for a band (R115, R127). -/
def bandRate (t : TariffClass) : Nat → Nat
  | 0 => t.rate0
  | 1 => t.rate1
  | 2 => t.rate2
  | _ => t.rate3

/-- The base charge of a number of steps (R127). -/
def baseCharge (t : TariffClass) (steps band : Nat) : Nat := t.setup + steps * bandRate t band

/-- The surcharge fraction, in 256ths (R128). -/
def surchargeFraction (t : TariffClass) (cls : CallClass) (level : Nat) : Nat :=
  if cls = .emergency then 0
  else
    match level with
    | 0 => 0
    | 1 => t.surcharge1
    | 2 => t.surcharge2
    | _ => t.surcharge3

/-- The surcharge on a base charge, rounded to the nearest mu with halves up (R128). -/
def surcharge (base fraction : Nat) : Nat := (base * fraction + 128) / 256

/-- A leg rated by R124 to R129 with class `t`; `mark` is the record's answer, if it is ANSWERED, and `now` the release time. -/
def rateLeg (t : TariffClass) (kind : LegKind) (carrier slot level : Nat) (cls : CallClass)
    (mark : Option AnswerMark) (now : Nat) : RatedLeg :=
  match mark with
  | none => ⟨kind, carrier, slot, false, 0, 0, false⟩
  | some a =>
    let steps := chargedSteps t (ratedDuration (now - a.time))
    let base := baseCharge t steps a.band
    ⟨kind, carrier, slot, true, base + surcharge base (surchargeFraction t cls level), steps,
      decide (Config.maxDuration < now - a.time)⟩

/-! ### Tariff classes (R117, R122) -/

/-- The clamped class that WRITE_TARIFF writes (R117). -/
def clampTariff (t : TariffClass) : TariffClass :=
  { t with step := clamp 1 3600 t.step, minSteps := min t.minSteps 255 }

/-- The ten values of a class, in the order of R115. -/
def tariffBytes (t : TariffClass) : List Byte :=
  beBytes 2 t.setup ++ beBytes 2 t.step ++ beBytes 2 t.minSteps ++ beBytes 2 t.rate0
    ++ beBytes 2 t.rate1 ++ beBytes 2 t.rate2 ++ beBytes 2 t.rate3 ++ beBytes 1 t.surcharge1
    ++ beBytes 1 t.surcharge2 ++ beBytes 1 t.surcharge3

/-- Whether a number names a carrier other than the exchange's own network (R101, R115). -/
def isCarrier (c : Nat) : Bool := decide (1 ≤ c) && decide (c ≤ Config.lastCarrier)

/-- HRU serves a WRITE_TARIFF (R117). -/
def writeTariff (carrier slot : Nat) (t : TariffClass) (s : State) : Reply × State :=
  if !isCarrier carrier ∨ 3 < slot then (Reply.plain .badValue, s)
  else
    (⟨doneOr (decide (clampTariff t ≠ t)), tariffBytes (clampTariff t)⟩,
      s.setPendingTariff carrier slot (clampTariff t))

/-- WRITE_TARIFF. -/
def execWriteTariff (r : Requester) (carrier slot : Nat) (arg : TariffClass) (s : State) :
    Host.Outcome State Fault Refusal :=
  serve r (.writeTariff r carrier slot arg) (writeTariff carrier slot arg) s

/-- HRU serves a READ_TARIFF of a class (R122). -/
def readTariffClass (copy carrier slot : Nat) (s : State) : Reply × State :=
  if !isCarrier carrier ∨ 3 < slot then (Reply.plain .badValue, s)
  else
    match flagOf copy with
    | none => (Reply.plain .badValue, s)
    | some false => (⟨.done, tariffBytes (s.tariff carrier slot)⟩, s)
    | some true => (⟨.done, tariffBytes (s.pendingTariff carrier slot)⟩, s)

/-- READ_TARIFF, class form. -/
def execReadTariffClass (r : Requester) (copy carrier slot : Nat) (s : State) :
    Host.Outcome State Fault Refusal :=
  serve r (.readTariffClass r copy carrier slot) (readTariffClass copy carrier slot) s

/-! ### Band tables (R119, R122) -/

/-- Whether a list of switch points may be written (R119). -/
def bandsValid (points : List SwitchPoint) : Bool :=
  decide (points.length ≤ 8)
    && points.all (fun p => decide (p.second ≤ Config.lastSecond) && decide (p.band ≤ 3))
    && decide (points.Pairwise fun a b => a.second < b.second)

/-- HRU serves a WRITE_BANDS (R119). -/
def writeBands (points : List SwitchPoint) (s : State) : Reply × State :=
  if bandsValid points then
    (Reply.plain .done, { s with hru := { s.hru with pendingBands := points } })
  else (Reply.plain .badValue, s)

/-- WRITE_BANDS. -/
def execWriteBands (r : Requester) (points : List SwitchPoint) (s : State) :
    Host.Outcome State Fault Refusal :=
  serve r (.writeBands r points) (writeBands points) s

/-- The switch points of a table, as READ_TARIFF carries them (R122). -/
def bandBytes (points : List SwitchPoint) : List Byte :=
  listBytes (fun p => beBytes 3 p.second ++ beBytes 1 p.band) points

/-- HRU serves a READ_TARIFF of the band table, or refuses an unknown form (R122). -/
def readTariffBand (form copy : Nat) (s : State) : Reply × State :=
  if form ≠ 1 then (Reply.plain .badValue, s)
  else
    match flagOf copy with
    | none => (Reply.plain .badValue, s)
    | some false => (⟨.done, bandBytes s.hru.bands⟩, s)
    | some true => (⟨.done, bandBytes s.hru.pendingBands⟩, s)

/-- READ_TARIFF, band form. -/
def execReadTariffBand (r : Requester) (form copy : Nat) (s : State) :
    Host.Outcome State Fault Refusal :=
  serve r (.readTariffBand r form copy) (readTariffBand form copy) s

end Sys2Proof.Machine
end

