-- ==== Sys2Proof/Machine/Agreements.lean ====
section
/-! DEFINITION. The Carrier Agreement Unit (spec file 06): resolution (R103), the offers (R104, R105), confirmation and withdrawal (R106, R107), and reading (R109). -/

namespace Sys2Proof.Machine

/-- Resolution: the state that two offers lead to, with its agreed slot (R103). -/
def resolved (localOffer : List Nat) (carrierOffer : Option (List Nat)) : AgreementState :=
  match localOffer, carrierOffer with
  | [], _ => .unset
  | _ :: _, none => .offerHeld
  | l, some set =>
    match l.find? fun n => decide (n ∈ set) with
    | some n => .matched n
    | none => .mismatch

/-- Whether a list of slots may be offered: at most 3, each 1 to 3, none twice (R104, R105). -/
def slotsValid (l : List Nat) : Bool :=
  decide (l.length ≤ 3) && l.all (fun n => decide (1 ≤ n) && decide (n ≤ 3)) && decide l.Nodup

/-- A set of slots, in ascending order. -/
def slotSet (l : List Nat) : List Nat := [1, 2, 3].filter fun n => decide (n ∈ l)

/-- The state, local offer, carrier offer and agreed slot of a record, in the form of R104 and R109. The carrier offer's slots are in ascending order, which R109 gives for READ_AGREEMENT only: in the replies of R104 to R107 that order is a DESIGN CHOICE, log entry 19. -/
def agreementBytes (a : Agreement) : List Byte :=
  beBytes 1 (agreementCode (agreementName a.state)) ++ listBytes (beBytes 1) a.localOffer
    ++ (match a.carrierOffer with
        | some l => listBytes (beBytes 1) l
        | none => absent 1)
    ++ optBytes 1 (agreedSlot a.state)

/-- A carrier's record is rewritten; a change of state raises AGREEMENT_STATE (R108). -/
def rewriteAgreement (c : Nat) (a : Agreement) (s : State) : State :=
  let s' := s.setAgreement c a
  if agreementName a.state = agreementName (s.agreement c).state then s'
  else s'.raiseAll (.agreementState c (agreementName a.state))

/-- A record is rewritten and the reply carries it (R104 to R107). -/
def answerAgreement (c : Nat) (a : Agreement) (s : State) : Reply × State :=
  (⟨.done, agreementBytes a⟩, rewriteAgreement c a s)

/-- CAU serves a WRITE_LOCAL_OFFER (R104). -/
def writeLocalOffer (c : Nat) (slots : List Nat) (s : State) : Reply × State :=
  if !isCarrier c ∨ !slotsValid slots then (Reply.plain .badValue, s)
  else
    let offer := (s.agreement c).carrierOffer
    answerAgreement c ⟨slots, offer, resolved slots offer⟩ s

/-- WRITE_LOCAL_OFFER. -/
def execWriteLocalOffer (r : Requester) (carrier : Nat) (slots : List Nat) (s : State) :
    Host.Outcome State Fault Refusal :=
  serve r (.writeLocalOffer r carrier slots) (writeLocalOffer carrier slots) s

/-- CAU serves a WRITE_CARRIER_OFFER (R105). -/
def writeCarrierOffer (c : Nat) (slots : List Nat) (s : State) : Reply × State :=
  if !isCarrier c ∨ !slotsValid slots then (Reply.plain .badValue, s)
  else
    let offer := (s.agreement c).localOffer
    answerAgreement c ⟨offer, some (slotSet slots), resolved offer (some (slotSet slots))⟩ s

/-- WRITE_CARRIER_OFFER. -/
def execWriteCarrierOffer (r : Requester) (carrier : Nat) (slots : List Nat) (s : State) :
    Host.Outcome State Fault Refusal :=
  serve r (.writeCarrierOffer r carrier slots) (writeCarrierOffer carrier slots) s

/-- CAU serves a CONFIRM_AGREEMENT (R106). -/
def confirmAgreement (c slot : Nat) (s : State) : Reply × State :=
  if !isCarrier c ∨ slot = 0 ∨ 3 < slot then (Reply.plain .badValue, s)
  else
    match (s.agreement c).state with
    | .matched n =>
      answerAgreement c { s.agreement c with state := if slot = n then .confirmed n else .mismatch } s
    | .unset => (Reply.plain .wrongState, s)
    | .offerHeld => (Reply.plain .wrongState, s)
    | .confirmed _ => (Reply.plain .wrongState, s)
    | .mismatch => (Reply.plain .wrongState, s)

/-- CONFIRM_AGREEMENT. -/
def execConfirmAgreement (r : Requester) (carrier slot : Nat) (s : State) :
    Host.Outcome State Fault Refusal :=
  serve r (.confirmAgreement r carrier slot) (confirmAgreement carrier slot) s

/-- CAU serves a WITHDRAW_AGREEMENT (R107). -/
def withdrawAgreement (c : Nat) (s : State) : Reply × State :=
  if !isCarrier c then (Reply.plain .badValue, s)
  else
    let offer := (s.agreement c).localOffer
    answerAgreement c ⟨offer, none, resolved offer none⟩ s

/-- WITHDRAW_AGREEMENT. -/
def execWithdrawAgreement (r : Requester) (carrier : Nat) (s : State) :
    Host.Outcome State Fault Refusal :=
  serve r (.withdrawAgreement r carrier) (withdrawAgreement carrier) s

/-- The carriers that a READ_AGREEMENT reports (R109). -/
def reportedCarriers (first count : Nat) : List Nat :=
  (List.range' first (Config.lastCarrier + 1 - first)).take count

/-- CAU serves a READ_AGREEMENT (R109). -/
def readAgreement (first count : Nat) (s : State) : Reply × State :=
  if !isCarrier first ∨ count = 0 ∨ 8 < count then (Reply.plain .badValue, s)
  else (⟨.done, listBytes (fun c => beBytes 1 c ++ agreementBytes (s.agreement c))
      (reportedCarriers first count)⟩, s)

/-- READ_AGREEMENT. -/
def execReadAgreement (r : Requester) (first count : Nat) (s : State) :
    Host.Outcome State Fault Refusal :=
  serve r (.readAgreement r first count) (readAgreement first count) s

end Sys2Proof.Machine
end

