-- ==== Sys2Proof/Machine/CircuitPool.lean ====
section
/-! DEFINITION. The Circuit Pool (spec file 01): what it does for the other blocks (R17 to R21) and its own requests (R8 to R16, R23). -/

namespace Sys2Proof.Machine

/-! ### What the circuit pool does for the other blocks -/

/-- The circuit numbers of a range, ascending. -/
def circuitRange (first count : Nat) : List Nat := List.range' first count

/-- The outbound hunt (R17): the head `c` of the group's free list leaves it and becomes RESERVED, and the busy count rises by 1. -/
def outboundHunt (g c : Nat) (s : State) : State :=
  match s.group g with
  | none => s
  | some r =>
    (s.setGroup g (some { r with freeList := r.freeList.tail, busy := r.busy + 1 })).setCircuit c
      { s.circuit c with state := .reserved }

/-- The inbound take (R18): the named circuit leaves its place in the free list and becomes BUSY, and the busy count rises by 1. -/
def inboundTake (g c : Nat) (s : State) : State :=
  match s.group g with
  | none => s
  | some r =>
    (s.setGroup g (some { r with freeList := r.freeList.erase c, busy := r.busy + 1 })).setCircuit c
      { s.circuit c with state := .busy }

/-- A held circuit changes from RESERVED to BUSY, its mark kept (R19). -/
def holdCircuit (c : Nat) (s : State) : State :=
  s.setCircuit c { s.circuit c with state := .busy }

/-- The group record after one of its circuits is freed (R20, R13): an unmarked circuit joins the tail of the free list, the busy count falls by 1, and a DRAINING group whose busy count reaches 0 becomes BLOCKED. -/
def groupAfterFreeing (c : Nat) (marked : Bool) (r : Group) : Group :=
  { r with
    freeList := if marked then r.freeList else r.freeList ++ [c]
    busy := r.busy - 1
    state := if r.state = .draining ∧ r.busy - 1 = 0 then .blocked else r.state }

/-- The state a freed circuit takes: MAINT if it was marked, else IDLE, the mark cleared (R20). -/
def circuitAfterFreeing (marked : Bool) : Circuit :=
  if marked then ⟨.maint, false⟩ else Circuit.idle

/-- Whether freeing one circuit of the group completes its drain (R13). -/
def completesDrain (r : Group) : Bool :=
  decide (r.state = .draining) && decide (r.busy - 1 = 0)

/-- A RESERVED or BUSY circuit of group `g` is freed (R20), and a drain that it completes raises GROUP_DRAINED (R13). -/
def freeCircuit (g c : Nat) (s : State) : State :=
  let marked := (s.circuit c).mark
  let s1 := s.setCircuit c (circuitAfterFreeing marked)
  match s.group g with
  | none => s1
  | some r =>
    let s2 := s1.setGroup g (some (groupAfterFreeing c marked r))
    if completesDrain r then s2.raiseAll (.groupDrained g) else s2

/-- What EXCHANGE_RESTART makes of a circuit (R21). -/
def restartCircuit (v : Circuit) : Circuit :=
  match v.state, v.mark with
  | .maint, _ => ⟨.maint, false⟩
  | .reserved, true => ⟨.maint, false⟩
  | .busy, true => ⟨.maint, false⟩
  | _, _ => Circuit.idle

/-- What EXCHANGE_RESTART makes of a group, given the circuits after it (R21). -/
def restartGroup (circuits : Table Circuit) (r : Group) : Group :=
  { r with
    freeList := (circuitRange r.first r.count).filter fun c =>
      decide ((Table.get Circuit.idle circuits c).state = .idle)
    busy := 0
    state := if r.state = .draining then .blocked else r.state }

/-- EXCHANGE_RESTART's part in the circuit pool (R21). -/
def restartPool (p : CircuitPool) : CircuitPool :=
  let circuits := (p.circuits.map fun e => (e.1, restartCircuit e.2)).filter
    fun e => decide (e.2 ≠ Circuit.idle)
  { groups := p.groups.map fun e => (e.1, e.2.map (restartGroup circuits)), circuits := circuits }

/-! ### DEFINE_GROUP (R8 to R10) -/

/-- The direction and glare rule that a define form names, where every structural field is valid (step 2 of R8). -/
def groupStructure (a : GroupArg) : Option (Direction × GlareRule) :=
  if 1 ≤ a.count ∧ a.count ≤ Config.maxGroupCircuits ∧ a.first + a.count - 1 ≤ Config.lastCircuit
      ∧ a.carrier ≤ Config.lastCarrier ∧ a.profile ≤ 7
      ∧ a.maint.all (fun c => decide (a.first ≤ c) && decide (c < a.first + a.count)) = true then
    match directionOf a.direction, glareOf a.glare with
    | some d, some r => some (d, r)
    | _, _ => none
  else none

/-- Whether a group may be defined or removed: UNDEFINED, or BLOCKED with a busy count of 0 (step 3 of R8). -/
def mayRedefine : Option Group → Bool
  | none => true
  | some r => decide (r.state = .blocked) && decide (r.busy = 0)

/-- Whether two ranges of circuits share a circuit. -/
def rangesMeet (first1 count1 first2 count2 : Nat) : Bool :=
  decide (first1 < first2 + count2) && decide (first2 < first1 + count1)

/-- Whether a new range for group `g` meets that of another defined group (step 4 of R8). -/
def overlaps (s : State) (g : Nat) (a : GroupArg) : Bool :=
  s.cpl.groups.any fun e =>
    decide (e.1 ≠ g) && e.2.any fun r => rangesMeet a.first a.count r.first r.count

/-- The circuits with a group's range unassigned. -/
def releaseRange (circuits : Table Circuit) : Option Group → Table Circuit
  | none => circuits
  | some r => Table.clearRange circuits r.first r.count

/-- The circuits after a definition (R9): the new range IDLE, but for the maintenance set. -/
def definedCircuits (circuits : Table Circuit) (old : Option Group) (a : GroupArg) : Table Circuit :=
  a.maint.foldl (fun t c => Table.set Circuit.idle t c ⟨.maint, false⟩)
    (Table.clearRange (releaseRange circuits old) a.first a.count)

/-- The group record that a definition makes (R9). -/
def definedGroup (a : GroupArg) (d : Direction) (gl : GlareRule) : Group :=
  { first := a.first, count := a.count, direction := d, carrier := a.carrier, glare := gl,
    reserve := min a.reserve a.count, profile := a.profile, state := .inService,
    freeList := (circuitRange a.first a.count).filter fun c => decide (c ∉ a.maint), busy := 0 }

/-- The state with group `g`'s record, its circuits and its CMN record rewritten (R9, R10). -/
def rewriteGroup (g : Nat) (r : Option Group) (circuits : Table Circuit) (s : State) : State :=
  let s1 := s.setGroup g r
  { s1 with cpl := { s1.cpl with circuits := circuits } }.setCongestion g CongestionRecord.zero

/-- CPL serves a define form (R8, R9). -/
def defineGroup (g : Nat) (a : GroupArg) (s : State) : Reply × State :=
  if Config.lastGroup < g then (Reply.plain .badValue, s)
  else
    match groupStructure a with
    | none => (Reply.plain .badValue, s)
    | some (d, gl) =>
      if !mayRedefine (s.group g) then (Reply.plain .groupInUse, s)
      else if overlaps s g a then (Reply.plain .overlap, s)
      else (Reply.plain (doneOr (decide (a.count < a.reserve))),
        rewriteGroup g (some (definedGroup a d gl)) (definedCircuits s.cpl.circuits (s.group g) a) s)

/-- DEFINE_GROUP, define form. -/
def execDefineGroupDefine (r : Requester) (group : Nat) (arg : GroupArg) (s : State) :
    Host.Outcome State Fault Refusal :=
  serve r (.defineGroupDefine r group arg) (defineGroup group arg) s

/-- CPL serves a remove form, or refuses an unknown one (R8, R10). -/
def removeGroup (g form : Nat) (s : State) : Reply × State :=
  if Config.lastGroup < g ∨ form ≠ 1 then (Reply.plain .badValue, s)
  else if !mayRedefine (s.group g) then (Reply.plain .groupInUse, s)
  else (Reply.plain .done, rewriteGroup g none (releaseRange s.cpl.circuits (s.group g)) s)

/-- DEFINE_GROUP, remove form. -/
def execDefineGroupRemove (r : Requester) (group form : Nat) (s : State) :
    Host.Outcome State Fault Refusal :=
  serve r (.defineGroupRemove r group form) (removeGroup group form) s

/-! ### SET_GROUP_STATE and SET_RESERVE (R11, R12, R14) -/

/-- The state that BLOCK gives a group (R11). -/
def blockedState (r : Group) : GroupState :=
  match r.state with
  | .inService => if r.busy = 0 then .blocked else .draining
  | .draining => .draining
  | .blocked => .blocked

/-- CPL serves a BLOCK (R11). -/
def blockGroup (g : Nat) (s : State) : Reply × State :=
  if Config.lastGroup < g then (Reply.plain .badValue, s)
  else
    match s.group g with
    | none => (Reply.plain .wrongState, s)
    | some r => (Reply.plain .done, s.setGroup g (some { r with state := blockedState r }))

/-- SET_GROUP_STATE, BLOCK form. -/
def execSetGroupStateBlock (r : Requester) (group : Nat) (s : State) :
    Host.Outcome State Fault Refusal :=
  serve r (.setGroupStateBlock r group) (blockGroup group) s

/-- CPL serves an UNBLOCK (R12), or refuses an unknown form (R11). -/
def unblockGroup (g form : Nat) (s : State) : Reply × State :=
  if Config.lastGroup < g ∨ form ≠ 1 then (Reply.plain .badValue, s)
  else
    match s.group g with
    | none => (Reply.plain .wrongState, s)
    | some r => (Reply.plain .done, s.setGroup g (some { r with state := .inService }))

/-- SET_GROUP_STATE, UNBLOCK form. -/
def execSetGroupStateUnblock (r : Requester) (group form : Nat) (s : State) :
    Host.Outcome State Fault Refusal :=
  serve r (.setGroupStateUnblock r group form) (unblockGroup group form) s

/-- CPL serves a SET_RESERVE (R14). -/
def setReserve (g reserve : Nat) (s : State) : Reply × State :=
  if Config.lastGroup < g then (Reply.plain .badValue, s)
  else
    match s.group g with
    | none => (Reply.plain .wrongState, s)
    | some r => (Reply.plain (doneOr (decide (r.count < reserve))),
        s.setGroup g (some { r with reserve := min reserve r.count }))

/-- SET_RESERVE. -/
def execSetReserve (r : Requester) (group reserve : Nat) (s : State) :
    Host.Outcome State Fault Refusal :=
  serve r (.setReserve r group reserve) (setReserve group reserve) s

/-! ### CIRCUIT_MAINT (R15, R16) -/

/-- The state with a circuit's state and its group's free list rewritten. -/
def moveCircuit (g c : Nat) (v : Circuit) (list : List Nat → List Nat) (s : State) : State :=
  match s.group g with
  | none => s
  | some r => (s.setCircuit c v).setGroup g (some { r with freeList := list r.freeList })

/-- A circuit of group `g` is taken out (R15). -/
def takeOut (g c : Nat) (s : State) : State :=
  match (s.circuit c).state with
  | .idle => moveCircuit g c ⟨.maint, false⟩ (fun l => l.erase c) s
  | .reserved => s.setCircuit c { s.circuit c with mark := true }
  | .busy => s.setCircuit c { s.circuit c with mark := true }
  | .maint => s

/-- A circuit of group `g` is returned (R16). -/
def putBack (g c : Nat) (s : State) : State :=
  match (s.circuit c).state with
  | .maint => moveCircuit g c Circuit.idle (fun l => l ++ [c]) s
  | .reserved => s.setCircuit c { s.circuit c with mark := false }
  | .busy => s.setCircuit c { s.circuit c with mark := false }
  | .idle => s

/-- CPL serves a CIRCUIT_MAINT out (R15). -/
def circuitOut (c : Nat) (s : State) : Reply × State :=
  if Config.lastCircuit < c then (Reply.plain .badValue, s)
  else
    match s.groupOf c with
    | none => (Reply.plain .wrongState, s)
    | some g => (Reply.plain .done, takeOut g c s)

/-- CIRCUIT_MAINT, out form. -/
def execCircuitMaintOut (r : Requester) (circuit : Nat) (s : State) :
    Host.Outcome State Fault Refusal :=
  serve r (.circuitMaintOut r circuit) (circuitOut circuit) s

/-- CPL serves a CIRCUIT_MAINT return (R16), or refuses an unknown form (R15). -/
def circuitReturn (c form : Nat) (s : State) : Reply × State :=
  if Config.lastCircuit < c ∨ form ≠ 1 then (Reply.plain .badValue, s)
  else
    match s.groupOf c with
    | none => (Reply.plain .wrongState, s)
    | some g => (Reply.plain .done, putBack g c s)

/-- CIRCUIT_MAINT, return form. -/
def execCircuitMaintReturn (r : Requester) (circuit form : Nat) (s : State) :
    Host.Outcome State Fault Refusal :=
  serve r (.circuitMaintReturn r circuit form) (circuitReturn circuit form) s

/-! ### READ_GROUP (R23) -/

/-- How many circuits of a group satisfy `f`; an unlisted circuit is IDLE without a mark. -/
def countCircuits (s : State) (r : Group) (f : Circuit → Bool) : Nat :=
  (s.cpl.circuits.filter fun e => groupHolds e.1 r && f e.2).length

/-- The body of a summary (R23, R1): for an UNDEFINED group the number and the state only (DEDUCED, log entry 8). The count, the direction and the glare rule take the widths that they have in DEFINE_GROUP (DEDUCED, log entry 20). -/
def groupSummary (s : State) (g : Nat) : List Byte :=
  match s.group g with
  | none => beBytes 1 g ++ beBytes 1 (groupStateCode none)
  | some r =>
    beBytes 1 g ++ beBytes 2 r.first ++ beBytes 2 r.count ++ beBytes 1 (directionCode r.direction)
      ++ beBytes 1 r.carrier ++ beBytes 1 (glareCode r.glare) ++ beBytes 2 r.reserve
      ++ beBytes 1 r.profile ++ beBytes 1 (groupStateCode (some r.state)) ++ beBytes 2 r.busy
      ++ beBytes 2 r.freeList.length
      ++ beBytes 2 (countCircuits s r fun v => decide (v.state = .maint))
      ++ beBytes 2 (countCircuits s r fun v => v.mark)
      ++ optBytes 2 r.freeList.head?

/-- CPL serves a summary form, or refuses an unknown form (R23). -/
def readGroupSummary (g form : Nat) (s : State) : Reply × State :=
  if Config.lastGroup < g ∨ form ≠ 0 then (Reply.plain .badValue, s)
  else (⟨.done, groupSummary s g⟩, s)

/-- READ_GROUP, summary form. -/
def execReadGroupSummary (r : Requester) (group form : Nat) (s : State) :
    Host.Outcome State Fault Refusal :=
  serve r (.readGroupSummary r group form) (readGroupSummary group form) s

/-- The state and mark of a circuit, as the circuit form reports them (R23). -/
def circuitBytes (s : State) (c : Nat) : List Byte :=
  beBytes 1 (circuitStateCode (s.circuit c).state) ++ beBytes 1 (flagCode (s.circuit c).mark)

/-- CPL serves a circuit form (R23). -/
def readGroupCircuit (g start n : Nat) (s : State) : Reply × State :=
  if Config.lastGroup < g then (Reply.plain .badValue, s)
  else
    match s.group g with
    | none => (Reply.plain .wrongState, s)
    | some r =>
      if !groupHolds start r then (Reply.plain .badValue, s)
      else (⟨doneOr (decide (clamp 1 32 n ≠ n)),
        listBytes (circuitBytes s)
          ((circuitRange start (r.first + r.count - start)).take (clamp 1 32 n))⟩, s)

/-- READ_GROUP, circuit form. -/
def execReadGroupCircuit (r : Requester) (group start n : Nat) (s : State) :
    Host.Outcome State Fault Refusal :=
  serve r (.readGroupCircuit r group start n) (readGroupCircuit group start n) s

/-- CPL serves a free-list form (R23). -/
def readGroupFreeList (g start n : Nat) (s : State) : Reply × State :=
  if Config.lastGroup < g then (Reply.plain .badValue, s)
  else
    match s.group g with
    | none => (Reply.plain .wrongState, s)
    | some r => (⟨doneOr (decide (clamp 1 32 n ≠ n)),
        listBytes (beBytes 2) ((r.freeList.drop start).take (clamp 1 32 n))⟩, s)

/-- READ_GROUP, free-list form. -/
def execReadGroupFreeList (r : Requester) (group start n : Nat) (s : State) :
    Host.Outcome State Fault Refusal :=
  serve r (.readGroupFreeList r group start n) (readGroupFreeList group start n) s

end Sys2Proof.Machine
end

