-- ==== Sys2Proof/Machine/Settlement.lean ====
section
/-! DEFINITION. The Settlement Store (spec file 08): accumulation (R136), the close of a period (R137 to R141), and the requests on banks (R140, R142, R143). -/

namespace Sys2Proof.Machine

/-! ### Accumulation (R136) -/

/-- A field that saturates, and whether this addition saturated it. -/
def saturatingAdd (largest value addend : Nat) : Nat × Bool :=
  if largest < value + addend then (largest, true) else (value + addend, false)

/-- A carrier settlement record with a rated leg added, each field saturating on its own. -/
def addLeg (leg : RatedLeg) (r : SettlementRecord) : SettlementRecord :=
  if leg.answered then
    let steps := saturatingAdd Config.maxCount32 r.steps leg.steps
    match leg.kind with
    | .payable =>
      let total := saturatingAdd Config.maxCount48 r.payable leg.charge
      let legs := saturatingAdd Config.maxCount32 r.payableLegs 1
      { r with payable := total.1, payableLegs := legs.1, steps := steps.1,
               saturated := r.saturated || total.2 || legs.2 || steps.2 }
    | .receivable =>
      let total := saturatingAdd Config.maxCount48 r.receivable leg.charge
      let legs := saturatingAdd Config.maxCount32 r.receivableLegs 1
      { r with receivable := total.1, receivableLegs := legs.1, steps := steps.1,
               saturated := r.saturated || total.2 || legs.2 || steps.2 }
  else
    let legs := saturatingAdd Config.maxCount32 r.unanswered 1
    { r with unanswered := legs.1, saturated := r.saturated || legs.2 }

/-- A rated leg is added into the ACTIVE bank, to the record of its carrier. -/
def accumulate (leg : RatedLeg) (s : State) : State :=
  let b := s.bank s.sts.activeBank
  s.setBank s.sts.activeBank
    { b with records := Table.set SettlementRecord.zero b.records leg.carrier (addLeg leg (b.record leg.carrier)) }

/-! ### Closing a period (R137, R138) -/

/-- A bank's period number, 0 where it has none. -/
def bankPeriod (b : Bank) : Nat :=
  match b.state with
  | .active p _ => p
  | .collectable p _ _ => p
  | .available => 0

/-- An ACTIVE bank closed at `now`: COLLECTABLE, with its period number, open time and records kept. -/
def closeBank (now : Stamp) (b : Bank) : Bank :=
  match b.state with
  | .active p opened => { b with state := .collectable p opened now }
  | .collectable _ _ _ => b
  | .available => b

/-- The number of the period that follows `p`. -/
def nextPeriod (p : Nat) : Nat := (p + 1) % Config.wrap16

/-- The pending tariff classes and band table take force (R121). -/
def takeTariffs (s : State) : State :=
  { s with hru := { s.hru with inForce := s.hru.pendingClasses, bands := s.hru.pendingBands } }

/-- The close that swaps the banks, in the order of R138. -/
def swapBanks (s : State) : State :=
  let k := s.sts.activeBank
  let p := bankPeriod (s.bank k)
  let s1 := s.setBank k (closeBank s.bankStamp (s.bank k))
  let s2 := s1.setBank (otherBank k) ⟨.active (nextPeriod p) s.bankStamp, []⟩
  let s3 := { s2 with sts := { s2.sts with activeBank := otherBank k, closeDeferred := false } }
  (takeTariffs s3).raiseAll (.periodClosed k p)

/-- The close is deferred (R137): the flag is set, with a notice at the first deferral. -/
def deferClose (s : State) : State :=
  if s.sts.closeDeferred then s
  else
    { s with sts := { s.sts with closeDeferred := true } }.raiseAll
      (.closeDeferred (bankPeriod (s.bank s.sts.activeBank)))

/-- Whether a close is to be deferred: the bank that is not ACTIVE is COLLECTABLE (R137). -/
def mustDefer (s : State) : Bool :=
  match (s.bank (otherBank s.sts.activeBank)).state with
  | .collectable _ _ _ => true
  | .active _ _ => false
  | .available => false

/-- A close, whatever its cause (R137). -/
def performClose (s : State) : State :=
  if mustDefer s then deferClose s else swapBanks s

/-- The four values of a swapping close: the closed bank, its period number, the new ACTIVE bank and its period number (R139). -/
def swapBytes (k : BankId) (p : Nat) : List Byte :=
  beBytes 1 (bankCode k) ++ beBytes 2 p ++ beBytes 1 (bankCode (otherBank k)) ++ beBytes 2 (nextPeriod p)

/-- STS serves a CLOSE_PERIOD (R139). -/
def closePeriod (s : State) : Reply × State :=
  let p := bankPeriod (s.bank s.sts.activeBank)
  if mustDefer s then (⟨.deferred, beBytes 2 p⟩, performClose s)
  else (⟨.done, swapBytes s.sts.activeBank p⟩, performClose s)

/-- CLOSE_PERIOD. -/
def execClosePeriod (r : Requester) (s : State) : Host.Outcome State Fault Refusal :=
  serve r (.closePeriod r) closePeriod s

/-- AUTOMATIC_CLOSE: the close that a tick made due by entering the named second (R141, R149). -/
def execAutomaticClose (s : State) : Host.Outcome State Fault Refusal :=
  eventWhen s.sts.closeDue
    (fun s => performClose { s with sts := { s.sts with closeDue := false } }) s

/-! ### SET_AUTO_CLOSE (R140) -/

/-- The automatic close setting in three bytes, ones when it is off (R173). -/
def autoCloseBytes (v : Option Nat) : List Byte := optBytes 3 v

/-- STS serves a SET_AUTO_CLOSE off form (R140). -/
def setAutoCloseOff (s : State) : Reply × State :=
  (⟨.done, autoCloseBytes none⟩, { s with sts := { s.sts with autoClose := none } })

/-- SET_AUTO_CLOSE, off form. -/
def execSetAutoCloseOff (r : Requester) (s : State) : Host.Outcome State Fault Refusal :=
  serve r (.setAutoCloseOff r) setAutoCloseOff s

/-- STS serves a SET_AUTO_CLOSE second form, or refuses an unknown form (R140). -/
def setAutoCloseSecond (form second : Nat) (s : State) : Reply × State :=
  if form ≠ 1 ∨ Config.lastSecond < second then (Reply.plain .badValue, s)
  else (⟨.done, autoCloseBytes (some second)⟩,
    { s with sts := { s.sts with autoClose := some second } })

/-- SET_AUTO_CLOSE, second form. -/
def execSetAutoCloseSecond (r : Requester) (form second : Nat) (s : State) :
    Host.Outcome State Fault Refusal :=
  serve r (.setAutoCloseSecond r form second) (setAutoCloseSecond form second) s

/-! ### Banks (R142, R143) -/

/-- STS releases a COLLECTABLE bank and performs a deferred close (R142). -/
def collectBank (k : BankId) (s : State) : Reply × State :=
  let s1 := s.setBank k ⟨.available, []⟩
  if s.sts.closeDeferred then
    (⟨.done, beBytes 1 (flagCode true)
        ++ swapBytes s.sts.activeBank (bankPeriod (s1.bank s.sts.activeBank))⟩, swapBanks s1)
  else (⟨.done, beBytes 1 (flagCode false) ++ absent 6⟩, s1)

/-- STS serves a RELEASE_BANK (R142). -/
def releaseBank (bank : Nat) (s : State) : Reply × State :=
  match bankOf bank with
  | none => (Reply.plain .badValue, s)
  | some k =>
    match (s.bank k).state with
    | .collectable _ _ _ => collectBank k s
    | .active _ _ => (Reply.plain .wrongState, s)
    | .available => (Reply.plain .wrongState, s)

/-- RELEASE_BANK. -/
def execReleaseBank (r : Requester) (bank : Nat) (s : State) : Host.Outcome State Fault Refusal :=
  serve r (.releaseBank r bank) (releaseBank bank) s

/-- A stamp in its five bytes. -/
def stampBytes (t : Stamp) : List Byte := beBytes 2 t.day ++ beBytes 3 t.second

/-- State, period number, open time and close time of a bank, as R176 lays them out. -/
def bankStateBytes (b : Bank) : List Byte :=
  beBytes 1 (bankStateCode b.state) ++
    match b.state with
    | .active p opened => beBytes 2 p ++ stampBytes opened ++ absent 5
    | .collectable p opened closed => beBytes 2 p ++ stampBytes opened ++ stampBytes closed
    | .available => absent 2 ++ absent 5 ++ absent 5

/-- A carrier settlement record in its 28 bytes (R176). -/
def recordBytes (r : SettlementRecord) : List Byte :=
  beBytes 6 r.payable ++ beBytes 6 r.receivable ++ beBytes 4 r.payableLegs
    ++ beBytes 4 r.receivableLegs ++ beBytes 4 r.unanswered ++ beBytes 4 r.steps

/-- The saturated flags of up to eight records, bit 7 for the first (R176). -/
def saturatedByte (l : List SettlementRecord) : Byte :=
  flagByte fun j => (l[j]?).any fun r => r.saturated

/-- The body of a READ_BANK reply (R143, R176). -/
def bankBytes (s : State) (k : BankId) (first count : Nat) : List Byte :=
  let b := s.bank k
  let records := ((List.range' first (Config.lastCarrier + 1 - first)).take count).map b.record
  bankStateBytes b ++ beBytes 1 (bankCode s.sts.activeBank)
    ++ beBytes 1 (flagCode s.sts.closeDeferred) ++ autoCloseBytes s.sts.autoClose
    ++ beBytes 1 first ++ beBytes 1 records.length ++ [saturatedByte records]
    ++ records.flatMap recordBytes

/-- STS serves a READ_BANK (R143). -/
def readBank (bank first count : Nat) (s : State) : Reply × State :=
  match bankOf bank with
  | none => (Reply.plain .badValue, s)
  | some k =>
    if Config.lastCarrier < first then (Reply.plain .badValue, s)
    else (⟨doneOr (decide (clamp 1 8 count ≠ count)), bankBytes s k first (clamp 1 8 count)⟩, s)

/-- READ_BANK. -/
def execReadBank (r : Requester) (bank first count : Nat) (s : State) :
    Host.Outcome State Fault Refusal :=
  serve r (.readBank r bank first count) (readBank bank first count) s

end Sys2Proof.Machine
end

