-- ==== Sys2Proof/Machine/CallRecords.lean ====
section
/-! DEFINITION. Call records (spec file 02): the free-record queue and handles (R25, R27), confirmation, answer, release, enquiry, the guard timer, adoption and exchange restart (R33 to R45). -/

namespace Sys2Proof.Machine

/-! ### The free-record queue (R25) -/

/-- The free indices in order, head first. -/
def queueList (q : FreeQueue) : List Nat :=
  List.range' q.fresh (Config.callRecords - q.fresh) ++ q.returned

/-- The index at the head of the queue. -/
def queueHead (q : FreeQueue) : Option Nat :=
  if q.fresh < Config.callRecords then some q.fresh else q.returned.head?

/-- The queue with its head taken. -/
def queuePop (q : FreeQueue) : FreeQueue :=
  if q.fresh < Config.callRecords then { q with fresh := q.fresh + 1 }
  else { q with returned := q.returned.tail }

/-- The queue with indices joined at its tail. -/
def queuePush (q : FreeQueue) (l : List Nat) : FreeQueue :=
  { q with returned := q.returned ++ l }

/-- The generation that follows `g` (R25). -/
def nextGen (g : Nat) : Nat := (g + 1) % Config.generations

/-- A live record is freed: its generation advances and it joins the tail of the queue (R25). -/
def freeRecord (i : Nat) (s : State) : State :=
  let s1 := s.setCall i none
  let gens := Table.set 0 s1.crt.gens i (nextGen (s1.gen i))
  { s1 with crt := { s1.crt with gens := gens, queue := queuePush s1.crt.queue [i] } }

/-! ### Handles (R27) -/

/-- Checks 1 and 2 of a handle: the record it names, or the refusal. -/
def findCall (s : State) (index gen : Nat) : Except Result CallRecord :=
  if Config.callRecords ≤ index then .error .badValue
  else
    match s.call index with
    | none => .error .staleHandle
    | some r => if s.gen index = gen then .ok r else .error .staleHandle

/-- Checks 1 to 3 of a handle, for the port that sends the request. -/
def findOwnCall (s : State) (p : PortId) (index gen : Nat) : Except Result CallRecord :=
  match findCall s index gen with
  | .error e => .error e
  | .ok r => if r.owner = p then .ok r else .error .notOwner

/-! ### CONFIRM and ANSWER (R33, R34) -/

/-- The outbound circuit of a record becomes BUSY (R19). -/
def holdOutbound (r : CallRecord) (s : State) : State :=
  match r.outbound with
  | some o => holdCircuit o.circuit s
  | none => s

/-- CRT serves a CONFIRM (R33). -/
def confirmCall (p : PortId) (index gen : Nat) (s : State) : Reply × State :=
  match findOwnCall s p index gen with
  | .error e => (Reply.plain e, s)
  | .ok r =>
    match r.state with
    | .reserved => (Reply.plain .done,
        holdOutbound r (s.setCall index (some { r with state := .seized, deadline := none })))
    | .displaced => (Reply.plain .displaced, s)
    | .seized => (Reply.plain .wrongState, s)
    | .answered => (Reply.plain .wrongState, s)

/-- CONFIRM. -/
def execConfirm (r : Requester) (index gen : Nat) (s : State) : Host.Outcome State Fault Refusal :=
  serve r (.confirm r index gen) (confirmCall r.port index gen) s

/-- CRT serves an ANSWER (R34). -/
def answerCall (p : PortId) (index gen : Nat) (s : State) : Reply × State :=
  match findOwnCall s p index gen with
  | .error e => (Reply.plain e, s)
  | .ok r =>
    match r.state with
    | .seized => (Reply.plain .done,
        s.setCall index (some { r with state := .answered, answer := some ⟨s.now, s.bandNow⟩ }))
    | .reserved => (Reply.plain .wrongState, s)
    | .answered => (Reply.plain .wrongState, s)
    | .displaced => (Reply.plain .wrongState, s)

/-- ANSWER. -/
def execAnswer (r : Requester) (index gen : Nat) (s : State) : Host.Outcome State Fault Refusal :=
  serve r (.answer r index gen) (answerCall r.port index gen) s

/-! ### RELEASE (R35 to R37) -/

/-- The carrier of a group, read from CPL (R123). -/
def State.carrierOf (s : State) (g : Nat) : Nat :=
  match s.group g with
  | some r => r.carrier
  | none => 0

/-- The answer a leg is rated with: present when the record is ANSWERED (R123). -/
def answerMark (r : CallRecord) : Option AnswerMark :=
  if r.state = .answered then r.answer else none

/-- The payable leg of a record, rated: present when it holds a payable slot (R35, R123). -/
def payableLeg (s : State) (r : CallRecord) : Option RatedLeg :=
  r.outbound.bind fun o => o.payable.map fun slot =>
    let carrier := s.carrierOf o.group
    rateLeg (s.tariff carrier slot) .payable carrier slot o.level r.cls (answerMark r) s.now

/-- The receivable leg of a record, rated: present when it holds a receivable slot (R35, R123). -/
def receivableLeg (s : State) (r : CallRecord) : Option RatedLeg :=
  r.inbound.bind fun b => b.receivable.map fun slot =>
    let carrier := s.carrierOf b.group
    rateLeg (s.tariff carrier slot) .receivable carrier slot b.level r.cls (answerMark r) s.now

/-- A leg that is present is added to the active bank (R130). -/
def accumulateLeg (leg : Option RatedLeg) (s : State) : State :=
  match leg with
  | some l => accumulate l s
  | none => s

/-- A leg in the eleven bytes of the RELEASED reply; ones when it is absent (R175). -/
def legBytes : Option RatedLeg → List Byte
  | some l => beBytes 1 l.carrier ++ beBytes 1 l.slot ++ beBytes 5 l.charge ++ beBytes 3 l.steps
      ++ beBytes 1 (flagCode l.longCall)
  | none => absent 11

/-- The outbound circuit of a record is freed, if it holds one. -/
def freeOutbound (r : CallRecord) (s : State) : State :=
  match r.outbound with
  | some o => freeCircuit o.group o.circuit s
  | none => s

/-- The inbound circuit of a record is freed, if it holds one. -/
def freeInbound (r : CallRecord) (s : State) : State :=
  match r.inbound with
  | some b => freeCircuit b.group b.circuit s
  | none => s

/-- A record's circuits are freed, outbound first (R20), and then the record. -/
def freeCall (i : Nat) (r : CallRecord) (s : State) : State :=
  freeRecord i (freeInbound r (freeOutbound r s))

/-- The release of a RESERVED, SEIZED or ANSWERED record (R35). -/
def releaseRated (i : Nat) (r : CallRecord) (s : State) : Reply × State :=
  let pay := payableLeg s r
  let recv := receivableLeg s r
  (⟨.released, legBytes pay ++ legBytes recv⟩,
    freeCall i r (accumulateLeg recv (accumulateLeg pay s)))

/-- CRT serves a RELEASE (R35, R37). -/
def releaseCall (p : PortId) (index gen : Nat) (s : State) : Reply × State :=
  match findOwnCall s p index gen with
  | .error e => (Reply.plain e, s)
  | .ok r =>
    match r.state with
    | .reserved => releaseRated index r s
    | .seized => releaseRated index r s
    | .answered => releaseRated index r s
    | .displaced => (⟨.released, legBytes none ++ legBytes none⟩, freeRecord index (freeInbound r s))

/-- RELEASE. -/
def execRelease (r : Requester) (index gen : Nat) (s : State) : Host.Outcome State Fault Refusal :=
  serve r (.release r index gen) (releaseCall r.port index gen) s

/-! ### QUERY_CALL (R39) -/

/-- The fields of a live record in the order of R24 (log entry 10), absent ones as R172 codes them; a deadline beyond 2^48−1 is coded by a free value (log entry 17). -/
def callBytes (index gen : Nat) (r : CallRecord) : List Byte :=
  beBytes 2 index ++ beBytes 1 gen ++ beBytes 1 (callStateCode r.state)
    ++ beBytes 1 (portNumber r.owner) ++ beBytes 2 r.dest ++ beBytes 1 (classCode r.cls)
    ++ optBytes 1 (r.inbound.map (·.group)) ++ optBytes 2 (r.inbound.map (·.circuit))
    ++ optBytes 1 (r.outbound.map (·.group)) ++ optBytes 2 (r.outbound.map (·.circuit))
    ++ optBytes 1 (r.outbound.map (·.rank)) ++ optBytes 1 (r.outbound.map fun o => flagCode o.firstChoice)
    ++ optBytes 1 (r.outbound.bind (·.payable)) ++ optBytes 1 (r.inbound.bind (·.receivable))
    ++ optBytes 1 (r.outbound.map (·.level)) ++ optBytes 1 (r.inbound.map (·.level))
    ++ optTimeBytes r.deadline ++ optTimeBytes (r.answer.map (·.time)) ++ optBytes 1 (r.answer.map (·.band))

/-- CRT serves a QUERY_CALL (R39). -/
def queryCall (index gen : Nat) (s : State) : Reply × State :=
  match findCall s index gen with
  | .error e => (Reply.plain e, s)
  | .ok r => (⟨.done, callBytes index gen r⟩, s)

/-- QUERY_CALL. -/
def execQueryCall (r : Requester) (index gen : Nat) (s : State) : Host.Outcome State Fault Refusal :=
  serve r (.queryCall r index gen) (queryCall index gen) s

/-! ### The guard timer (R40, R42) -/

/-- Whether a record's guard deadline has been reached. -/
def guardDue (now : Nat) (r : CallRecord) : Bool :=
  r.deadline.any fun d => decide (d ≤ now)

/-- The expiry of record `i` (R40): its circuits and the record are freed and its owner is told, by the handle it had. -/
def expireCall (i : Nat) (r : CallRecord) (s : State) : State :=
  (freeCall i r s).raiseTo r.owner (.reservationExpired i (s.gen i))

/-- GUARD_EXPIRY of a record (R40). -/
def execGuardExpiry (index : Nat) (s : State) : Host.Outcome State Fault Refusal :=
  match s.call index with
  | none => .next s
  | some r => eventWhen (guardDue s.now r) (expireCall index r) s

/-- The deadline that a reservation or a displacement sets now (R28, R31, R38). -/
def State.guardDeadline (s : State) : Nat := s.now + 1000 * s.crt.guardSeconds

/-- CRT serves a SET_GUARD (R42). -/
def setGuard (seconds : Nat) (s : State) : Reply × State :=
  (Reply.plain (doneOr (decide (clamp 1 Config.maxGuardSeconds seconds ≠ seconds))),
    { s with crt := { s.crt with guardSeconds := clamp 1 Config.maxGuardSeconds seconds } })

/-- SET_GUARD. -/
def execSetGuard (r : Requester) (seconds : Nat) (s : State) : Host.Outcome State Fault Refusal :=
  serve r (.setGuard r seconds) (setGuard seconds) s

/-! ### ADOPT_PORT (R43) -/

/-- A record with its owner changed from `f` to `t`. -/
def adoptRecord (f t : PortId) (r : CallRecord) : CallRecord :=
  if r.owner = f then { r with owner := t } else r

/-- How many live records a port owns. -/
def ownedCount (s : State) (p : PortId) : Nat :=
  s.crt.calls.countP fun e => e.2.any fun r => decide (r.owner = p)

/-- Whether a role may receive adopted calls (R43). -/
def mayAdopt (r : Role) : Bool := decide (r = .call) || decide (r = .both)

/-- Every live record of `f` is given to `t`, which is told how many there were (R43). -/
def adoptCalls (f t : PortId) (s : State) : State :=
  let calls := s.crt.calls.map fun e => (e.1, e.2.map (adoptRecord f t))
  { s with crt := { s.crt with calls := calls } }.raiseTo t (.recordsAdopted f (ownedCount s f))

/-- CRT serves an ADOPT_PORT (R43). -/
def adoptPort (fromPort toPort : Nat) (s : State) : Reply × State :=
  match portOf fromPort, portOf toPort with
  | some f, some t =>
    if f = t ∨ !mayAdopt (s.port t).role then (Reply.plain .badValue, s)
    else (⟨.done, beBytes 2 (ownedCount s f)⟩, adoptCalls f t s)
  | _, _ => (Reply.plain .badValue, s)

/-- ADOPT_PORT. -/
def execAdoptPort (r : Requester) (fromPort toPort : Nat) (s : State) :
    Host.Outcome State Fault Refusal :=
  serve r (.adoptPort r fromPort toPort) (adoptPort fromPort toPort) s

/-! ### EXCHANGE_RESTART (R45) -/

/-- The indices of the live records, ascending. -/
def liveIndices (s : State) : List Nat :=
  (s.crt.calls.filter fun e => e.2.isSome).map (·.1)

/-- The generations after those of the given indices have advanced. -/
def advanceGens (gens : Table Nat) (l : List Nat) : Table Nat :=
  l.foldl (fun t i => Table.set 0 t i (nextGen (Table.get 0 t i))) gens

/-- CRT serves an EXCHANGE_RESTART (R45, R21). -/
def exchangeRestart (s : State) : Reply × State :=
  (Reply.plain .done,
    { s with
      crt := { s.crt with calls := [], gens := advanceGens s.crt.gens (liveIndices s),
                          queue := queuePush s.crt.queue (liveIndices s) }
      cpl := restartPool s.cpl })

/-- EXCHANGE_RESTART. -/
def execExchangeRestart (r : Requester) (s : State) : Host.Outcome State Fault Refusal :=
  serve r (.exchangeRestart r) exchangeRestart s

end Sys2Proof.Machine
end

