-- ==== Sys2Proof/Machine/Congestion.lean ====
section
/-! DEFINITION. The Congestion Monitor (spec file 05): the period end (R87 to R92), profiles and the measurement period (R93, R94), and their reading (R96, R97). -/

namespace Sys2Proof.Machine

/-! ### The computation of a level (R88 to R90) -/

/-- The occupancy sample of a group (R88). -/
def occupancy (busy count : Nat) : Nat := busy * Config.full / count

/-- The refusal fraction of a period (R88). -/
def refusalFraction (attempts refusals : Nat) : Nat :=
  if attempts = 0 then 0 else refusals * Config.full / attempts

/-- The step of the index over a distance `d` with smoothing shift `k` (R89). -/
def indexStep (d : Int) (k : Nat) : Int :=
  let step := d.tdiv (2 ^ k)
  if d ≠ 0 ∧ step = 0 then d.sign else step

/-- The new index of a group (R89). -/
def newIndex (index sample k : Nat) : Nat :=
  (index + indexStep (sample - index) k : Int).toNat

/-- The thresholds of a profile, rising. -/
def thresholds (p : Profile) : List Nat := [p.u1, p.u2, p.u3]

/-- How many rising thresholds `g` reaches (R90). -/
def levelUp (p : Profile) (g : Nat) : Nat :=
  (thresholds p).countP fun u => decide (u ≤ g)

/-- How many falling thresholds `g` reaches (R90). -/
def levelDown (p : Profile) (g : Nat) : Nat :=
  (thresholds p).countP fun u => decide (u - p.hysteresis ≤ g)

/-- The new level of a group that stood at level `l` (R90). -/
def newLevel (p : Profile) (l g : Nat) : Nat :=
  max (levelUp p g) (min l (levelDown p g))

/-- A group's congestion record after a period end (R87 step 1, R91). -/
def measured (p : Profile) (busy count : Nat) (r : CongestionRecord) : CongestionRecord :=
  let index := newIndex r.index (occupancy busy count) p.shift
  let level := newLevel p r.level (max index (refusalFraction r.attempts r.refusals))
  { index := index, level := level, attempts := 0, refusals := 0, peak := max r.peak level }

/-! ### The period end (R87) -/

/-- The in-force copy of a profile (R92). -/
def State.profile (s : State) (n : Nat) : Profile := Table.get resetProfile s.cmn.inForce n

/-- The staged copy of a profile (R92). -/
def State.stagedProfile (s : State) (n : Nat) : Profile := Table.get resetProfile s.cmn.staged n

/-- The record that a period end gives group `g`, a defined group with record `r`. -/
def State.measuredRecord (s : State) (g : Nat) (r : Group) : CongestionRecord :=
  measured (s.profile r.profile) r.busy r.count (s.congestion g)

/-- Step 1 of R87 for one group: its record is computed, and a change of level raises LEVEL_CHANGE (R91). -/
def measureGroup (g : Nat) (r : Group) (s : State) : State :=
  let old := (s.congestion g).level
  let new := s.measuredRecord g r
  let s' := s.setCongestion g new
  if new.level = old then s' else s'.raiseAll (.levelChange g old new.level)

/-- Step 1 of R87 for one entry of the group table; UNDEFINED groups take no part. -/
def measureEntry (s : State) (e : Nat × Option Group) : State :=
  match e.2 with
  | some r => measureGroup e.1 r s
  | none => s

/-- Step 1 of R87: every defined group in ascending group number. -/
def measureGroups (s : State) : State := s.cpl.groups.foldl measureEntry s

/-- The length of a measurement period in ms, by its code (R86). -/
def periodMs : Nat → Nat
  | 0 => 2000
  | 1 => 5000
  | 2 => 10000
  | _ => 20000

/-- Steps 2 and 3 of R87: the staged copies take force (R92), and the next period end is set (R86). -/
def takeStaged (c : CongestionMonitor) : CongestionMonitor :=
  { c with inForce := c.staged, inForcePeriod := c.stagedPeriod
           nextPeriodEnd := c.nextPeriodEnd + periodMs c.stagedPeriod }

/-- The whole period end. -/
def endPeriod (s : State) : State :=
  let s' := measureGroups s
  { s' with cmn := takeStaged s'.cmn }

/-- PERIOD_END (R87). -/
def execPeriodEnd (s : State) : Host.Outcome State Fault Refusal :=
  eventWhen (decide (s.cmn.nextPeriodEnd ≤ s.now)) endPeriod s

/-! ### WRITE_PROFILE and SET_PERIOD (R93, R94) -/

/-- Whether a profile's thresholds may be written (R93). -/
def thresholdsValid (p : Profile) : Bool :=
  decide (1 ≤ p.u1) && decide (p.u1 < p.u2) && decide (p.u2 < p.u3) && decide (p.u3 ≤ Config.full)

/-- A profile with H and k clamped (R93). -/
def clampProfile (p : Profile) : Profile :=
  { p with hysteresis := min p.hysteresis 1023, shift := min p.shift 4 }

/-- CMN serves a WRITE_PROFILE (R93). -/
def writeProfile (n : Nat) (p : Profile) (s : State) : Reply × State :=
  if 7 < n ∨ !thresholdsValid p then (Reply.plain .badValue, s)
  else
    let staged := Table.set resetProfile s.cmn.staged n (clampProfile p)
    (Reply.plain (doneOr (decide (clampProfile p ≠ p))), { s with cmn := { s.cmn with staged := staged } })

/-- WRITE_PROFILE. -/
def execWriteProfile (r : Requester) (profile : Nat) (arg : Profile) (s : State) :
    Host.Outcome State Fault Refusal :=
  serve r (.writeProfile r profile arg) (writeProfile profile arg) s

/-- CMN serves a SET_PERIOD (R94). -/
def setPeriod (code : Nat) (s : State) : Reply × State :=
  if 3 < code then (Reply.plain .badValue, s)
  else (Reply.plain .done, { s with cmn := { s.cmn with stagedPeriod := code } })

/-- SET_PERIOD. -/
def execSetPeriod (r : Requester) (code : Nat) (s : State) : Host.Outcome State Fault Refusal :=
  serve r (.setPeriod r code) (setPeriod code) s

/-! ### READ_CONGESTION (R96, R97) -/

/-- One entry of the group form (R96). -/
def congestionEntry (s : State) (g : Nat) : List Byte :=
  match s.group g with
  | none => beBytes 1 g ++ beBytes 1 (groupStateCode none) ++ absent 1 ++ absent 2 ++ absent 1 ++ absent 1
      ++ absent 4 ++ absent 4
  | some r =>
    let c := s.congestion g
    beBytes 1 g ++ beBytes 1 (groupStateCode (some r.state)) ++ beBytes 1 r.profile ++ beBytes 2 c.index
      ++ beBytes 1 c.level ++ beBytes 1 c.peak ++ beBytes 4 c.attempts ++ beBytes 4 c.refusals

/-- The latch of a defined group is set to its current level (R96). -/
def resetLatch (s : State) (g : Nat) : State :=
  match s.group g with
  | none => s
  | some _ => s.setCongestion g { s.congestion g with peak := (s.congestion g).level }

/-- The groups that a group form reports. -/
def reportedGroups (first count : Nat) : List Nat :=
  (List.range' first (Config.lastGroup + 1 - first)).take (clamp 1 16 count)

/-- CMN serves a READ_CONGESTION group form (R96). -/
def readCongestion (first count : Nat) (s : State) : Reply × State :=
  if Config.lastGroup < first then (Reply.plain .badValue, s)
  else (⟨doneOr (decide (clamp 1 16 count ≠ count)),
      listBytes (congestionEntry s) (reportedGroups first count)⟩,
    (reportedGroups first count).foldl resetLatch s)

/-- READ_CONGESTION, group form. -/
def execReadCongestionGroup (r : Requester) (first count : Nat) (s : State) :
    Host.Outcome State Fault Refusal :=
  serve r (.readCongestionGroup r first count) (readCongestion first count) s

/-- The five values of a profile in the order of R92. -/
def profileBytes (p : Profile) : List Byte :=
  beBytes 2 p.u1 ++ beBytes 2 p.u2 ++ beBytes 2 p.u3 ++ beBytes 2 p.hysteresis ++ beBytes 1 p.shift

/-- CMN serves a READ_CONGESTION profile form (R97). -/
def readProfile (n : Nat) (s : State) : Reply × State :=
  if 7 < n then (Reply.plain .badValue, s)
  else (⟨.done, profileBytes (s.profile n) ++ profileBytes (s.stagedProfile n)⟩, s)

/-- READ_CONGESTION, profile form. -/
def execReadCongestionProfile (r : Requester) (profile : Nat) (s : State) :
    Host.Outcome State Fault Refusal :=
  serve r (.readCongestionProfile r profile) (readProfile profile) s

/-- CMN serves a READ_CONGESTION period form, or refuses an unknown form (R96, R97). A next period end beyond 2^48−1 is coded by a free value (log entry 17). -/
def readPeriod (form : Nat) (s : State) : Reply × State :=
  if form ≠ 2 then (Reply.plain .badValue, s)
  else (⟨.done, beBytes 1 s.cmn.inForcePeriod ++ beBytes 1 s.cmn.stagedPeriod
      ++ timeBytes s.cmn.nextPeriodEnd⟩, s)

/-- READ_CONGESTION, period form. -/
def execReadCongestionPeriod (r : Requester) (form : Nat) (s : State) :
    Host.Outcome State Fault Refusal :=
  serve r (.readCongestionPeriod r form) (readPeriod form) s

end Sys2Proof.Machine
end

