-- ==== Sys2Proof/Machine/Ports.lean ====
section
/-! DEFINITION. The events of the Port Controller: power-on reset (R157), the line and the link (R158 to R160), the arrival of frames and the request FIFO (R161 to R166), the engine's grant (R58) and the end of sending a reply (R167). -/

namespace Sys2Proof.Machine

/-- The role that two role pins select (R157). -/
def roleOfPins : PinPair → Role
  | ⟨false, false⟩ => .off
  | ⟨false, true⟩ => .call
  | ⟨true, false⟩ => .mgmt
  | ⟨true, true⟩ => .both

/-- POWER_ON_RESET: the role pins are sampled and every block takes its reset state (R157). -/
def execPowerOnReset (pins : RolePins) (s : State) : Host.Outcome State Fault Refusal :=
  .next { State.resetRoles (roleOfPins pins.p0) (roleOfPins pins.p1) (roleOfPins pins.p2) (roleOfPins pins.p3)
    with pending := s.pending }

/-- The request that a link loss at running time `now` finds in service (R160). -/
def headLeftInService (now : Nat) (q : Port) : List Request :=
  if q.headStage now = .inService then q.fifo.head?.toList else []

/-- Link loss on a port whose link is UP (R160): the FIFO, the reply list and the notice queue are emptied, a head in service is detached, the attention line follows the queue, and LINK_LOST is latched. -/
def linkLoss (now : Nat) (q : Port) : Port :=
  { q with
    link := .down, fifo := [], stage := .noHead, replies := [], notices := [], attention := false,
    linkLost := true, detached := q.detached ++ headLeftInService now q }

/-- The line indication becomes LOST; an UP link goes DOWN with it (R158, R160). -/
def lineLost (now : Nat) (q : Port) : Port :=
  let q' := if q.link = .up then linkLoss now q else q
  { q' with line := .lost }

/-- Whether a GOOD line may have been held in space for 20 ms without a break: it stood at mark when its indication became GOOD, so no sooner than 20 ms after that (R158, log entry 11). -/
def lineLostDue (now : Nat) (q : Port) : Bool :=
  decide (q.line = .good) && decide (q.goodSince + Config.spaceDelay ≤ now)

/-- LINE_INDICATION_LOST (R158). -/
def execLineIndicationLost (p : PortId) (s : State) : Host.Outcome State Fault Refusal :=
  eventWhen (lineLostDue s.now (s.port p)) (fun s => s.setPort p (lineLost s.now (s.port p))) s

/-- LINE_INDICATION_GOOD: the line has returned to mark, and the counts of R158 and R159 begin (R158). -/
def execLineIndicationGood (p : PortId) (s : State) : Host.Outcome State Fault Refusal :=
  eventWhen (decide ((s.port p).line = .lost))
    (fun s => s.setPort p { s.port p with line := .good, goodSince := s.now }) s

/-- Whether a port's link is due to go UP (R159). -/
def linkUpDue (now : Nat) (q : Port) : Bool :=
  decide (q.role ≠ .off) && decide (q.link = .down) && decide (q.line = .good)
    && decide (q.goodSince + Config.linkUpDelay ≤ now)

/-- LINK_UP: the link goes UP with an empty FIFO and reply list; the latched flags stand (R159). -/
def execLinkUp (p : PortId) (s : State) : Host.Outcome State Fault Refusal :=
  eventWhen (linkUpDue s.now (s.port p))
    (fun s => s.setPort p
      (attended { s.port p with link := .up, fifo := [], stage := .noHead, replies := [] })) s

/-- PCT examines the request that becomes head at running time `now` (R165): it is answered at once where a check fails, waits for the engine where RSE owns it (R57), and is checked, to be handed on within this millisecond, where another block does (R166, log entry 14). -/
def checkHead (now : Nat) (q : Port) : Port :=
  match q.fifo with
  | [] => { q with stage := .noHead }
  | h :: _ =>
    match headRefusal q.role h with
    | some r => answerHead (Reply.plain r) { q with headAt := now }
    | none => { q with stage := if ownedByEngine h then .waiting else .checked, headAt := now }

/-- A HOLD reply to a request that finds the FIFO full, unless seven are waiting (R164). -/
def holdRequest (h : Request) (q : Port) : Port :=
  if holdCount q < Config.maxHolds then
    { q with replies := q.replies ++ [⟨true, replyFrame h.tag (Reply.plain .hold)⟩] }
  else q

/-- An intact request frame is taken (R164). -/
def takeRequest (now : Nat) (h : Request) (q : Port) : Port :=
  if q.fifo.length < Config.fifoDepth then
    let q' := { q with fifo := q.fifo ++ [h] }
    if q.fifo.isEmpty then checkHead now q' else q'
  else holdRequest h q

/-- A frame arrives on a port (R161, R162): ignored while the link is DOWN (R159). -/
def receiveFrame (now : Nat) (bytes : List Byte) (stopFault : Bool) (q : Port) : Port :=
  if q.link = .down then q
  else if intact bytes stopFault then takeRequest now (requestOf bytes) q
  else { q with badFrame := true }

/-- FRAME_ARRIVAL (R161). -/
def execFrameArrival (p : PortId) (bytes : List Byte) (stopFault : Bool) (s : State) :
    Host.Outcome State Fault Refusal :=
  .next (s.setPort p (receiveFrame s.now bytes stopFault (s.port p)))

/-- The grant of a waiting port: its head is in service and the grant pointer names it (R58). -/
def grant (p : PortId) (s : State) : State :=
  let s' := s.setPort p { s.port p with stage := .inService }
  { s' with rse := { s'.rse with pointer := p } }

/-- ENGINE_GRANT: the free engine grants the next waiting port after the grant pointer (R58). The request is then served by its own row (log entry 4). -/
def execEngineGrant (s : State) : Host.Outcome State Fault Refusal :=
  match s.nextWaiting with
  | some p => eventWhen s.engineFree (grant p) s
  | none => .next s

/-- The last byte of the oldest reply has been sent (R167). -/
def sendReply (now : Nat) (q : Port) : Port :=
  match q.replies with
  | [] => q
  | f :: rest =>
    if f.hold then { q with replies := rest }
    else checkHead now { q with replies := rest, fifo := q.fifo.tail }

/-- REPLY_SENT (R167). -/
def execReplySent (p : PortId) (s : State) : Host.Outcome State Fault Refusal :=
  .next (s.setPort p (sendReply s.now (s.port p)))

end Sys2Proof.Machine
end

