-- ==== Sys2Proof/Machine/RouteTables.lean ====
section
/-! DEFINITION. The routing tables (spec file 03): destinations, rotation orders and route sets, and the requests that write and read them (R49 to R55), with the restriction of a destination (spec file 04) and the requests and events that open and end it (R73 to R78). -/

namespace Sys2Proof.Machine

/-! ### Rotation (R49) -/

/-- Whether a rank's rotate flag is on (R46, R172). -/
def rotates (d : Dest) (rank : Nat) : Bool := d.rotate.getLsbD rank

/-- The positions of a rank's choices in ascending order. -/
def positionsOfRank (routes : List Choice) (rank : Nat) : List Nat :=
  (List.range routes.length).filter fun i => (routes[i]?).any fun c => decide (c.rank = rank)

/-- The order in which the walk visits a rank's choices (R49). -/
def rankOrder (d : Dest) (rank : Nat) : List Nat :=
  if rotates d rank then Table.get [] d.orders rank else positionsOfRank d.routes rank

/-- The rotation orders of a destination written with these choices and flags: route list order for each rotating rank (R51). -/
def writtenOrders (routes : List Choice) (rotate : Byte) : Table (List Nat) :=
  (List.range 8).filterMap fun r =>
    let l := positionsOfRank routes r
    if rotate.getLsbD r && !l.isEmpty then some (r, l) else none

/-- An order turned cyclically so that position `i` stands first (R49). -/
def turnTo (i : Nat) (l : List Nat) : List Nat :=
  l.dropWhile (fun j => decide (j ≠ i)) ++ l.takeWhile (fun j => decide (j ≠ i))

/-- An order with position `i` moved to its end (R49, R66). -/
def moveToEnd (i : Nat) (l : List Nat) : List Nat := l.erase i ++ [i]

/-- A destination with the order of one rank changed. -/
def reorder (d : Dest) (rank : Nat) (f : List Nat → List Nat) : Dest :=
  { d with orders := Table.set [] d.orders rank (f (Table.get [] d.orders rank)) }

/-! ### WRITE_DEST (R50, R51) -/

/-- The route choice that coded fields name, where each is in range (R47, R50). -/
def choiceOf (a : ChoiceArg) : Option Choice :=
  match targetOf a.kind a.target, flagOf a.mask with
  | some t, some m => if a.rank ≤ 7 then some ⟨t, a.rank, m⟩ else none
  | _, _ => none

/-- The route list that coded choices name; none where one of them is at fault. -/
def choicesOf : List ChoiceArg → Option (List Choice)
  | [] => some []
  | a :: l =>
    match choiceOf a, choicesOf l with
    | some c, some cs => some (c :: cs)
    | _, _ => none

/-- RSE serves a WRITE_DEST (R50, R51). -/
def writeDest (dest : Nat) (rotate : Byte) (choices : List ChoiceArg) (s : State) : Reply × State :=
  if Config.lastDest < dest ∨ Config.maxChoices < choices.length then (Reply.plain .badValue, s)
  else
    match choicesOf choices with
    | none => (Reply.plain .badValue, s)
    | some routes => (Reply.plain .done,
        s.setDest dest { s.dest dest with
          routes := routes, rotate := rotate, orders := writtenOrders routes rotate })

/-- WRITE_DEST. -/
def execWriteDest (r : Requester) (dest : Nat) (rotate : Byte) (choices : List ChoiceArg) (s : State) :
    Host.Outcome State Fault Refusal :=
  serve r (.writeDest r dest rotate choices) (writeDest dest rotate choices) s

/-! ### WRITE_ROUTE_SET (R52) -/

/-- Whether the entries of a WRITE_ROUTE_SET may be written: 1 to 8 groups, no set reference, each in range, none twice. -/
def setEntriesValid (entries : List SetEntryArg) : Bool :=
  decide (1 ≤ entries.length) && decide (entries.length ≤ Config.maxChoices)
    && entries.all (fun e => decide (e.kind = 0) && decide (e.number ≤ Config.lastGroup))
    && decide (entries.map (·.number)).Nodup

/-- RSE serves a WRITE_ROUTE_SET (R52). -/
def writeRouteSet (set : Nat) (entries : List SetEntryArg) (s : State) : Reply × State :=
  if Config.lastSet < set ∨ !setEntriesValid entries then (Reply.plain .badValue, s)
  else
    let sets := Table.set [] s.rse.sets set (entries.map (·.number))
    (Reply.plain .done, { s with rse := { s.rse with sets := sets } })

/-- WRITE_ROUTE_SET. -/
def execWriteRouteSet (r : Requester) (set : Nat) (entries : List SetEntryArg) (s : State) :
    Host.Outcome State Fault Refusal :=
  serve r (.writeRouteSet r set entries) (writeRouteSet set entries) s

/-! ### MASK_CHOICE and SET_FIRST (R53, R54) -/

/-- A route list with the mask of one choice set or cleared. -/
def maskRoutes (routes : List Choice) (i : Nat) (m : Bool) : List Choice :=
  routes.modify i fun c => { c with masked := m }

/-- RSE serves a MASK_CHOICE (R53). -/
def maskChoice (dest position mask : Nat) (s : State) : Reply × State :=
  if Config.lastDest < dest ∨ (s.dest dest).routes.length ≤ position then (Reply.plain .badValue, s)
  else
    match flagOf mask with
    | none => (Reply.plain .badValue, s)
    | some m => (Reply.plain .done,
        s.setDest dest { s.dest dest with routes := maskRoutes (s.dest dest).routes position m })

/-- MASK_CHOICE. -/
def execMaskChoice (r : Requester) (dest position mask : Nat) (s : State) :
    Host.Outcome State Fault Refusal :=
  serve r (.maskChoice r dest position mask) (maskChoice dest position mask) s

/-- RSE serves a SET_FIRST (R54). -/
def setFirst (dest position : Nat) (s : State) : Reply × State :=
  if Config.lastDest < dest then (Reply.plain .badValue, s)
  else
    match (s.dest dest).routes[position]? with
    | none => (Reply.plain .badValue, s)
    | some c =>
      if rotates (s.dest dest) c.rank then
        (Reply.plain .done, s.setDest dest (reorder (s.dest dest) c.rank (turnTo position)))
      else (Reply.plain .wrongState, s)

/-- SET_FIRST. -/
def execSetFirst (r : Requester) (dest position : Nat) (s : State) :
    Host.Outcome State Fault Refusal :=
  serve r (.setFirst r dest position) (setFirst dest position) s

/-! ### The restriction of a destination (R71 to R78) -/

/-- The restriction fields in the form of R73 and R81: state, gap interval, next-admit time, last admission time, end time; a time beyond 2^48−1 is coded by a free value (log entry 17). -/
def restrictionBytes : Option Restriction → List Byte
  | none => beBytes 1 0 ++ absent 2 ++ absent 6 ++ absent 6 ++ absent 6
  | some r => beBytes 1 1 ++ beBytes 2 r.gap ++ timeBytes r.nextAdmit ++ optTimeBytes r.lastAdmit
      ++ timeBytes r.endTime

/-- A gap interval in ms (R72). -/
def gapMs (gap : Nat) : Nat := gap * 100

/-- The restriction after a report with clamped interval `g` and duration `d`, served at `now` (R73, R74). -/
def reportedRestriction (now g d : Nat) : Option Restriction → Restriction
  | none => ⟨g, now, none, now + d * 1000⟩
  | some r =>
    let nextAdmit :=
      match r.lastAdmit with
      | some t => t + gapMs g
      | none => r.nextAdmit
    let endTime := max r.endTime (now + d * 1000)
    if r.gap < g then { r with gap := g, nextAdmit := nextAdmit, endTime := endTime }
    else { r with endTime := endTime }

/-- A destination with its restriction replaced. -/
def State.setRestriction (s : State) (dest : Nat) (r : Option Restriction) : State :=
  s.setDest dest { s.dest dest with restriction := r }

/-- RSE serves a FAR_CONGESTION (R73, R74). -/
def farCongestion (dest gap duration : Nat) (s : State) : Reply × State :=
  if Config.lastDest < dest then (Reply.plain .badValue, s)
  else
    let g := clamp 1 Config.maxGap gap
    let d := clamp 1 Config.maxRestrictionSeconds duration
    let r := reportedRestriction s.now g d (s.dest dest).restriction
    (⟨doneOr (decide (g ≠ gap ∨ d ≠ duration)), restrictionBytes (some r)⟩,
      s.setRestriction dest (some r))

/-- FAR_CONGESTION. -/
def execFarCongestion (r : Requester) (dest gap duration : Nat) (s : State) :
    Host.Outcome State Fault Refusal :=
  serve r (.farCongestion r dest gap duration) (farCongestion dest gap duration) s

/-- A restriction ends: the destination is OPEN and every port is told (R77). -/
def openDest (dest : Nat) (s : State) : State :=
  (s.setRestriction dest none).raiseAll (.destOpened dest)

/-- RSE serves a FAR_CLEAR (R78). -/
def farClear (dest : Nat) (s : State) : Reply × State :=
  if Config.lastDest < dest then (Reply.plain .badValue, s)
  else
    match (s.dest dest).restriction with
    | none => (Reply.plain .done, s)
    | some _ => (Reply.plain .done, openDest dest s)

/-- FAR_CLEAR. -/
def execFarClear (r : Requester) (dest : Nat) (s : State) : Host.Outcome State Fault Refusal :=
  serve r (.farClear r dest) (farClear dest) s

/-- Whether a restriction's end time has been reached (R77). -/
def endDue (now : Nat) (d : Dest) : Bool :=
  d.restriction.any fun r => decide (r.endTime ≤ now)

/-- RESTRICTION_END of a destination (R77). -/
def execRestrictionEnd (dest : Nat) (s : State) : Host.Outcome State Fault Refusal :=
  eventWhen (endDue s.now (s.dest dest)) (openDest dest) s

/-- GAP_EXPIRY of a destination (R75): the arrival of the next-admit time changes no stored field and raises no notice; what it changes is the outcome of `gapPasses`. -/
def execGapExpiry (_dest : Nat) (s : State) : Host.Outcome State Fault Refusal :=
  .next s

/-- The gap check of a call (R75). -/
def gapPasses (now : Nat) (d : Dest) (cls : CallClass) : Bool :=
  match d.restriction with
  | none => true
  | some r =>
    match cls with
    | .emergency => true
    | .priority => true
    | .ordinary => decide (r.nextAdmit ≤ now)
    | .low => decide (r.nextAdmit ≤ now)

/-- The restriction after a call has been admitted at `now` (R76). -/
def admittedRestriction (now : Nat) (cls : CallClass) (r : Restriction) : Restriction :=
  match cls with
  | .emergency => r
  | .priority => r
  | .ordinary => { r with lastAdmit := some now, nextAdmit := now + gapMs r.gap }
  | .low => { r with lastAdmit := some now, nextAdmit := now + gapMs r.gap }

/-! ### READ_DEST (R55, R81) -/

/-- The route list with each choice's position, kind, target, rank and mask (R55). -/
def routesBytes (routes : List Choice) : List Byte :=
  listBytes (fun e : Choice × Nat =>
    beBytes 1 e.2 ++ beBytes 1 (choiceKindCode e.1.target) ++ beBytes 2 (targetNumber e.1.target)
      ++ beBytes 1 e.1.rank ++ beBytes 1 (flagCode e.1.masked)) routes.zipIdx

/-- The rotation order of each rank whose flag is on (R55), by ascending rank and without a byte that names the rank, both of which R55 leaves open. DESIGN CHOICE: log entry 15. -/
def ordersBytes (d : Dest) : List Byte :=
  ((List.range 8).filter (rotates d)).flatMap fun r => listBytes (beBytes 1) (Table.get [] d.orders r)

/-- The body of the destination form (R55, R81). -/
def destBytes (d : Dest) : List Byte :=
  routesBytes d.routes ++ [d.rotate] ++ ordersBytes d ++ restrictionBytes d.restriction

/-- RSE serves a READ_DEST destination form (R55). -/
def readDest (dest : Nat) (s : State) : Reply × State :=
  if Config.lastDest < dest then (Reply.plain .badValue, s)
  else (⟨.done, destBytes (s.dest dest)⟩, s)

/-- READ_DEST, destination form. -/
def execReadDestDestination (r : Requester) (dest : Nat) (s : State) :
    Host.Outcome State Fault Refusal :=
  serve r (.readDestDestination r dest) (readDest dest) s

/-- RSE serves a READ_DEST route set form, or refuses an unknown form (R55). A group of the set takes the one byte of "group" in R172, not the two of "route set entry number". DESIGN CHOICE: log entry 15. -/
def readRouteSet (form set : Nat) (s : State) : Reply × State :=
  if form ≠ 1 ∨ Config.lastSet < set then (Reply.plain .badValue, s)
  else (⟨.done, listBytes (beBytes 1) (s.routeSet set)⟩, s)

/-- READ_DEST, route set form. -/
def execReadDestRouteSet (r : Requester) (form set : Nat) (s : State) :
    Host.Outcome State Fault Refusal :=
  serve r (.readDestRouteSet r form set) (readRouteSet form set) s

end Sys2Proof.Machine
end

