-- ==== Sys2Proof/Machine/Clock.lean ====
section
/-! DEFINITION. The Time Base (spec file 09): the millisecond tick (R146, R147, R149) and the requests on the time of day (R150, R153). -/

namespace Sys2Proof.Machine

/-- Whether a timed event is due and has not been served (R149): a guard expiry, the end of a restriction, a period end or an automatic close. A gap expiry changes nothing that is stored, so none is ever outstanding. -/
def eventOutstanding (s : State) : Bool :=
  s.crt.calls.any (fun e => e.2.any (guardDue s.now)) || s.rse.dests.any (fun e => endDue s.now e.2)
    || decide (s.cmn.nextPeriodEnd ≤ s.now) || s.sts.closeDue

/-- Whether a link is due to go UP and has not done so: R159 takes it up when its line has stood GOOD for 100 ms, so before the running time goes on. -/
def linkUpOutstanding (s : State) : Bool :=
  allPorts.any fun p => linkUpDue s.now (s.port p)

/-- Whether the tick may be taken: every event that is due has been served (R149), every link that is due is UP (R159), and the engine has served what it has been granted, since a request's "now" is the moment of its grant (R72). DEDUCED, log entry 5. -/
def mayTick (s : State) : Bool :=
  !eventOutstanding s && !linkUpOutstanding s && s.engineFree

/-- Whether a tick enters a new second (R147). -/
def entersSecond (t : TimeBase) : Bool := decide (999 ≤ t.milli)

/-- The second of day that follows `n` (R147). -/
def nextSecond (n : Nat) : Nat := if n < Config.lastSecond then n + 1 else 0

/-- The two clocks after a tick (R146, R147). -/
def advance (t : TimeBase) : TimeBase :=
  let running := if t.running < Config.maxCount48 then t.running + 1 else t.running
  let day := if t.second < Config.lastSecond then t.day else (t.day + 1) % Config.wrap16
  if entersSecond t then { running := running, day := day, second := nextSecond t.second, milli := 0 }
  else { t with running := running, milli := t.milli + 1 }

/-- A tick: the clocks advance, and an automatic close falls due when the tick enters the named second (R141, R149). -/
def tick (s : State) : State :=
  let due := entersSecond s.tmb && decide (s.sts.autoClose = some (nextSecond s.tmb.second))
  { s with tmb := advance s.tmb, sts := { s.sts with closeDue := due } }

/-- MILLISECOND_TICK (R146), which is not taken while what belongs to the present millisecond is unserved (log entry 5). -/
def execMillisecondTick (s : State) : Host.Outcome State Fault Refusal :=
  eventWhen (mayTick s) tick s

/-- TMB serves a SET_TIME (R150). -/
def setTime (day second milli : Nat) (s : State) : Reply × State :=
  if Config.lastSecond < second ∨ 999 < milli then (Reply.plain .badValue, s)
  else (⟨.done, beBytes 2 day ++ beBytes 3 second ++ beBytes 2 milli ++ beBytes 6 s.now⟩,
    { s with tmb := { s.tmb with day := day, second := second, milli := milli } })

/-- SET_TIME. -/
def execSetTime (r : Requester) (day second milli : Nat) (s : State) :
    Host.Outcome State Fault Refusal :=
  serve r (.setTime r day second milli) (setTime day second milli) s

/-- TMB serves a READ_TIME (R153). -/
def readTime (s : State) : Reply × State :=
  (⟨.done, beBytes 6 s.now ++ beBytes 2 s.tmb.day ++ beBytes 3 s.tmb.second ++ beBytes 2 s.tmb.milli
      ++ beBytes 1 s.bandNow⟩, s)

/-- READ_TIME. -/
def execReadTime (r : Requester) (s : State) : Host.Outcome State Fault Refusal :=
  serve r (.readTime r) readTime s

end Sys2Proof.Machine
end

