-- ==== Sys2Proof/Machine/Notices.lean ====
section
/-! DEFINITION. Notices and port status (spec file 11): TAKE_NOTICES (R181), SET_NOTICE_MASK (R182), PORT_STATUS (R183) and IDENTIFY (R184). -/

namespace Sys2Proof.Machine

/-- PCT serves a TAKE_NOTICES (R181). -/
def takeNotices (p : PortId) (s : State) : Reply × State :=
  (⟨.done, listBytes noticeBytes ((s.port p).notices.take Config.noticesTaken)⟩,
    s.setPort p (dropNotices Config.noticesTaken (s.port p)))

/-- TAKE_NOTICES. -/
def execTakeNotices (r : Requester) (s : State) : Host.Outcome State Fault Refusal :=
  serve r (.takeNotices r) (takeNotices r.port) s

/-- PCT serves a SET_NOTICE_MASK (R182). -/
def setNoticeMask (p : PortId) (mask : Byte) (s : State) : Reply × State :=
  if mask.getLsbD 6 ∨ mask.getLsbD 7 then (Reply.plain .badValue, s)
  else (⟨.done, [mask]⟩, s.setPort p { s.port p with mask := mask.setWidth 6 })

/-- SET_NOTICE_MASK. -/
def execSetNoticeMask (r : Requester) (mask : Byte) (s : State) :
    Host.Outcome State Fault Refusal :=
  serve r (.setNoticeMask r mask) (setNoticeMask r.port mask) s

/-- The fields of a port's status, in the order of R183. Neither R183 nor R172 gives the width of the role, of the line indication or of the two counts, and no rule codes whether the attention line is driven: each takes one byte, and the line is coded 1 where driven and 0 where not, as a flag is. DESIGN CHOICE: log entry 16. -/
def statusBytes (p : PortId) (q : Port) : List Byte :=
  beBytes 1 (portNumber p) ++ beBytes 1 (roleCode q.role) ++ beBytes 1 (linkCode q.link)
    ++ beBytes 1 (lineCode q.line) ++ beBytes 1 q.fifo.length ++ beBytes 1 q.notices.length
    ++ [q.mask.setWidth 8] ++ beBytes 1 (flagCode q.attention) ++ beBytes 1 (flagCode q.badFrame)
    ++ beBytes 1 (flagCode q.linkLost) ++ beBytes 1 (flagCode q.noticeLost)

/-- PCT serves a PORT_STATUS for port `p`: its own flags are cleared as they are reported, another port's are left (R183). -/
def portStatus (p : PortId) (port : Nat) (s : State) : Reply × State :=
  match portOf port with
  | none => (Reply.plain .badValue, s)
  | some t => (⟨.done, statusBytes t (s.port t)⟩,
      if t = p then s.setPort p (clearFlags (s.port p)) else s)

/-- PORT_STATUS. -/
def execPortStatus (r : Requester) (port : Nat) (s : State) : Host.Outcome State Fault Refusal :=
  serve r (.portStatus r port) (portStatus r.port port) s

/-- PCT serves an IDENTIFY (R184). -/
def identify (p : PortId) (s : State) : Reply × State :=
  (⟨.done, beBytes 2 0x4B56 ++ beBytes 2 3640 ++ beBytes 1 1 ++ beBytes 1 (portNumber p)
      ++ beBytes 1 (roleCode (s.port p).role)⟩, s)

/-- IDENTIFY. -/
def execIdentify (r : Requester) (s : State) : Host.Outcome State Fault Refusal :=
  serve r (.identify r) (identify r.port) s

end Sys2Proof.Machine
end

