-- ==== Sys2Proof/Machine/RouteSelection.lean ====
section
/-! DEFINITION. Route selection (spec file 03, 3.6 to 3.9): the walk with its skip test, examination and admission (R60 to R68), the service of ROUTE (R59, R65) with the inbound checks and glare (R29 to R32), and REROUTE (R38, R69). -/

namespace Sys2Proof.Machine

/-! ### The groups that a walk yields (R60) -/

/-- A group that the walk yields, with the choice that yielded it. -/
structure Candidate where
  position : Nat
  rank : Nat
  masked : Bool
  group : Nat
  deriving DecidableEq, Repr

/-- The groups a choice yields: a DIRECT choice its group, a CHAINED choice those of its set in set order. -/
def yieldsOf (s : State) : Target → List Nat
  | .direct g => [g]
  | .chained n => s.routeSet n

/-- The candidates of one position of a route list. -/
def candidatesAt (s : State) (d : Dest) (i : Nat) : List Candidate :=
  match d.routes[i]? with
  | none => []
  | some c => (yieldsOf s c.target).map fun g => ⟨i, c.rank, c.masked, g⟩

/-- Every candidate of a destination's walk, in the order of R60. -/
def candidates (s : State) (d : Dest) : List Candidate :=
  (List.range 8).flatMap fun rank => (rankOrder d rank).flatMap (candidatesAt s d)

/-! ### Skipping (R61) and admission (R63, R64) -/

/-- Whether CAU holds a carrier's agreement CONFIRMED. -/
def State.isConfirmed (s : State) (carrier : Nat) : Bool :=
  match (s.agreement carrier).state with
  | .confirmed _ => true
  | .unset | .offerHeld | .matched _ | .mismatch => false

/-- The record of a candidate's group where the walk does not skip it (R61); `inbound` is the call's inbound group and `examined` the groups examined so far. -/
def eligible (s : State) (inbound : Option Nat) (examined : List Nat) (c : Candidate) : Option Group :=
  match s.group c.group with
  | none => none
  | some r =>
    if c.masked = false ∧ r.state = .inService ∧ r.direction ≠ .incoming ∧ inbound ≠ some c.group
        ∧ (r.carrier = 0 ∨ s.isConfirmed r.carrier = true) ∧ c.group ∉ examined then some r
    else none

/-- The kinds of traffic (R63). -/
inductive Traffic where
  | emergency | firstChoice | overflow
  deriving DecidableEq, Repr

/-- The kind of traffic of a call on a choice of the given rank (R63). -/
def trafficOf (cls : CallClass) (rank : Nat) : Traffic :=
  match cls with
  | .emergency => .emergency
  | .priority => .firstChoice
  | .ordinary => if rank = 0 then .firstChoice else .overflow
  | .low => if rank = 0 then .firstChoice else .overflow

/-- The effective reserve: what overflow traffic must exceed below level 3 (R64). -/
def effectiveReserve (level reserve count : Nat) : Nat :=
  if level ≤ 1 then reserve else min (2 * reserve) count

/-- The admission table (R64), for free count `f`. -/
def admits (t : Traffic) (level f reserve count : Nat) : Bool :=
  match t with
  | .emergency => decide (1 ≤ f)
  | .firstChoice => if level ≤ 2 then decide (1 ≤ f) else decide (reserve < f)
  | .overflow => if level ≤ 2 then decide (effectiveReserve level reserve count < f) else false

/-- The first-choice flag of a record (R63). -/
def firstChoiceFlag (cls : CallClass) (rank : Nat) : Bool :=
  decide (rank = 0) || decide (cls = .priority)

/-! ### Examination and its counts (R62, R67, R85) -/

/-- A counter of CMN raised by 1, saturating (R85). -/
def countUp (n : Nat) : Nat := if n < Config.maxCount32 then n + 1 else Config.maxCount32

/-- A congestion record with one examination counted, and its refusal if it refused (R85). -/
def countExamination (refused : Bool) (r : CongestionRecord) : CongestionRecord :=
  { r with attempts := countUp r.attempts
           refusals := if refused then countUp r.refusals else r.refusals }

/-- CMN's records with one examination of a group counted. -/
def countOn (records : Table CongestionRecord) (g : Nat) (refused : Bool) : Table CongestionRecord :=
  Table.set CongestionRecord.zero records g
    (countExamination refused (Table.get CongestionRecord.zero records g))

/-! ### The walk (R60 to R68) -/

/-- What a walk has met so far: the groups examined, and whether a refusal was a congestion refusal. -/
structure Tally where
  examined : List Nat
  congestion : Bool
  deriving DecidableEq, Repr

/-- The choice, group and head circuit that a walk has won. -/
structure Winner where
  position : Nat
  rank : Nat
  group : Nat
  circuit : Nat
  deriving DecidableEq, Repr

/-- The reason of a walk that found no group (R68). -/
def failedReason (t : Tally) : Reason :=
  if t.congestion then .congested else if t.examined.isEmpty then .noEligible else .allBusy

/-- The examination of a candidate's group (R62): the head circuit that the call is given if the group admits it (R64, R17). -/
def admittedHead (s : State) (cls : CallClass) (c : Candidate) (r : Group) : Option Nat :=
  if admits (trafficOf cls c.rank) (s.congestion c.group).level r.freeList.length r.reserve r.count then
    r.freeList.head?
  else none

/-- The walk over the candidates that remain. It reads groups, levels and agreements as they stand in `s`, and counts examinations in `records`. -/
def walkFrom (s : State) (cls : CallClass) (inbound : Option Nat) :
    List Candidate → Tally → Table CongestionRecord → Except Reason Winner × Table CongestionRecord
  | [], t, records => (.error (failedReason t), records)
  | c :: rest, t, records =>
    match eligible s inbound t.examined c with
    | none => walkFrom s cls inbound rest t records
    | some r =>
      match admittedHead s cls c r with
      | some head => (.ok ⟨c.position, c.rank, c.group, head⟩, countOn records c.group false)
      | none =>
        walkFrom s cls inbound rest
          ⟨t.examined ++ [c.group], t.congestion || !r.freeList.isEmpty⟩ (countOn records c.group true)

/-- Steps 4 to 6 of R59: the unroutable test, the gap check and the walk. The state that comes back has the examinations counted. -/
def selectRoute (dest : Nat) (cls : CallClass) (inbound : Option Nat) (s : State) :
    Except Reason Winner × State :=
  let d := s.dest dest
  if d.routes.isEmpty then (.error .unroutable, s)
  else if !gapPasses s.now d cls then (.error .destGapped, s)
  else
    let w := walkFrom s cls inbound (candidates s d) ⟨[], false⟩ s.cmn.records
    (w.1, { s with cmn := { s.cmn with records := w.2 } })

/-! ### Completing an admission (R65, R112, R113) -/

/-- The payable slot of a reservation on a group: the agreed slot of its carrier, when that is not 0 (R112). -/
def payableSlot (s : State) (g : Nat) : Option Nat :=
  if s.carrierOf g = 0 then none else agreedSlot (s.agreement (s.carrierOf g)).state

/-- The receivable slot for a carrier other than 0: its agreed slot when CONFIRMED, else 0 (R113). -/
def receivableFor (s : State) (carrier : Nat) : Nat :=
  match (s.agreement carrier).state with
  | .confirmed n => n
  | .unset | .offerHeld | .matched _ | .mismatch => 0

/-- The receivable slot of a call that arrives on a group (R113). -/
def receivableSlot (s : State) (g : Nat) : Option Nat :=
  if s.carrierOf g = 0 then none else some (receivableFor s (s.carrierOf g))

/-- The outbound side of a record placed by a winning walk (R28, R38). -/
def outboundOf (s : State) (cls : CallClass) (w : Winner) : Outbound :=
  { group := w.group, circuit := w.circuit, rank := w.rank, firstChoice := firstChoiceFlag cls w.rank,
    level := (s.congestion w.group).level, payable := payableSlot s w.group }

/-- The inbound side of a record that arrives on a circuit (R28). -/
def inboundSide (s : State) (g c : Nat) : Inbound :=
  { group := g, circuit := c, level := (s.congestion g).level, receivable := receivableSlot s g }

/-- The rotation move and the restriction rule that close an admission (steps 4 and 5 of R65). -/
def admittedDest (now : Nat) (cls : CallClass) (w : Winner) (d : Dest) : Dest :=
  let d' := if rotates d w.rank then reorder d w.rank (moveToEnd w.position) else d
  { d' with restriction := d'.restriction.map (admittedRestriction now cls) }

/-- The destination of an admitted call is brought up to date. -/
def settleDest (dest : Nat) (cls : CallClass) (w : Winner) (s : State) : State :=
  s.setDest dest (admittedDest s.now cls w (s.dest dest))

/-- The ROUTED reply (R175). -/
def routedReply (index gen : Nat) (w : Winner) : Reply :=
  ⟨.routed, beBytes 2 index ++ beBytes 1 gen ++ beBytes 1 w.group ++ beBytes 2 w.circuit⟩

/-- A record is made at the head of the free-record queue (R25, R28). -/
def makeRecord (i : Nat) (r : CallRecord) (s : State) : State :=
  let s1 := s.setCall i (some r)
  { s1 with crt := { s1.crt with queue := queuePop s1.crt.queue } }

/-! ### Inbound circuits and glare (R29 to R32) -/

/-- The inbound circuit of a ROUTE after its checks: none was named, one that is IDLE, or one whose reservation has been displaced. -/
inductive InboundPlan where
  | originating
  | take (group circuit : Nat)
  | displaced (group circuit : Nat)
  deriving DecidableEq, Repr

/-- The checks of R29 on a named circuit: a refusal, or the circuit's group and whether it is held RESERVED under FAR_WINS. -/
def checkInbound (s : State) (c : Nat) : Except Result (Nat × Bool) :=
  if Config.lastCircuit < c then .error .badValue
  else
    match s.groupOf c with
    | none => .error .groupBlocked
    | some g =>
      match s.group g with
      | none => .error .groupBlocked
      | some r =>
        if r.state = .blocked then .error .groupBlocked
        else if r.direction = .outgoing then .error .badValue
        else
          match (s.circuit c).state, r.glare with
          | .maint, _ => .error .circuitOut
          | .busy, _ => .error .circuitBusy
          | .reserved, .localWins => .error .glare
          | .reserved, .farWins => .ok (g, true)
          | .idle, _ => .ok (g, false)

/-- Whether a record is the RESERVED record that holds a circuit as its outbound circuit (R29). -/
def reserves (c : Nat) (r : CallRecord) : Bool :=
  decide (r.state = .reserved) && r.outbound.any fun o => decide (o.circuit = c)

/-- The RESERVED record that holds a circuit. -/
def State.reserverOf (s : State) (c : Nat) : Option Nat :=
  (s.crt.calls.find? fun e => e.2.any (reserves c)).map (·.1)

/-- The displacement of the record that reserves circuit `c` (R31). -/
def displace (c : Nat) (s : State) : State :=
  match s.reserverOf c with
  | none => s
  | some i =>
    match s.call i with
    | none => s
    | some r =>
      (s.setCall i (some { r with
        state := .displaced, outbound := none, deadline := some s.guardDeadline })).raiseTo r.owner
          (.displaced i (s.gen i))

/-- The inbound group of a call (R61). -/
def planGroup : InboundPlan → Option Nat
  | .originating => none
  | .take g _ => some g
  | .displaced g _ => some g

/-- The inbound side of the record that a plan leads to. -/
def planInbound (s : State) : InboundPlan → Option Inbound
  | .originating => none
  | .take g c => some (inboundSide s g c)
  | .displaced g c => some (inboundSide s g c)

/-- The inbound circuit is taken, or passes to the new call (R18, R19, R32). -/
def takeInbound (plan : InboundPlan) (s : State) : State :=
  match plan with
  | .originating => s
  | .take g c => inboundTake g c s
  | .displaced _ c => holdCircuit c s

/-- A routing that fails frees the circuit it had displaced (R32). -/
def dropInbound (plan : InboundPlan) (s : State) : State :=
  match plan with
  | .originating => s
  | .take _ _ => s
  | .displaced g c => freeCircuit g c s

/-! ### ROUTE (R59) -/

/-- The record that an admitted ROUTE makes (R28). -/
def routedRecord (s : State) (p : PortId) (dest : Nat) (cls : CallClass) (plan : InboundPlan)
    (w : Winner) : CallRecord :=
  { state := .reserved, owner := p, dest := dest, cls := cls, inbound := planInbound s plan,
    outbound := some (outboundOf s cls w), deadline := some s.guardDeadline, answer := none }

/-- An admission of a ROUTE completed in the order of R65, with the record at index `i`. -/
def completeRoute (p : PortId) (dest : Nat) (cls : CallClass) (plan : InboundPlan) (i : Nat)
    (w : Winner) (s : State) : Reply × State :=
  let record := routedRecord s p dest cls plan w
  (routedReply i (s.gen i) w,
    settleDest dest cls w (makeRecord i record (outboundHunt w.group w.circuit (takeInbound plan s))))

/-- Steps 4 to 7 of R59. -/
def routeWith (p : PortId) (dest : Nat) (cls : CallClass) (plan : InboundPlan) (i : Nat) (s : State) :
    Reply × State :=
  match selectRoute dest cls (planGroup plan) s with
  | (.error reason, s') => (Reply.noRoute reason, dropInbound plan s')
  | (.ok w, s') => completeRoute p dest cls plan i w s'

/-- Step 3 of R59 and what follows it, with the record index `i`. -/
def routeInbound (p : PortId) (dest : Nat) (cls : CallClass) (inbound : Option Nat) (i : Nat)
    (s : State) : Reply × State :=
  match inbound with
  | none => routeWith p dest cls .originating i s
  | some c =>
    match checkInbound s c with
    | .error e => (Reply.plain e, s)
    | .ok (g, false) => routeWith p dest cls (.take g c) i s
    | .ok (g, true) => routeWith p dest cls (.displaced g c) i (displace c s)

/-- RSE serves a ROUTE (R59). -/
def routeCall (p : PortId) (dest cls : Nat) (inbound : Option Nat) (s : State) : Reply × State :=
  if Config.lastDest < dest then (Reply.plain .badValue, s)
  else
    match classOf cls with
    | none => (Reply.plain .badValue, s)
    | some k =>
      match queueHead s.crt.queue with
      | none => (Reply.noRoute .allBusy, s)
      | some i => routeInbound p dest k inbound i s

/-- ROUTE. -/
def execRoute (r : Requester) (dest cls : Nat) (inbound : Option Nat) (s : State) :
    Host.Outcome State Fault Refusal :=
  serve r (.route r dest cls inbound) (routeCall r.port dest cls inbound) s

/-! ### REROUTE (R38, R69) -/

/-- The inbound side of a rerouted record: its receivable slot is locked anew if it has one (R38, R113). -/
def relockInbound (s : State) (b : Inbound) : Inbound :=
  { b with receivable := b.receivable.map fun _ => receivableFor s (s.carrierOf b.group) }

/-- A DISPLACED record placed on a new group (R38). -/
def reroutedRecord (s : State) (r : CallRecord) (w : Winner) : CallRecord :=
  { r with state := .reserved, inbound := r.inbound.map (relockInbound s),
           outbound := some (outboundOf s r.cls w), deadline := some s.guardDeadline }

/-- An admission of a REROUTE completed (R38, R69). -/
def completeReroute (index gen : Nat) (r : CallRecord) (w : Winner) (s : State) : Reply × State :=
  (routedReply index gen w,
    settleDest r.dest r.cls w
      ((outboundHunt w.group w.circuit s).setCall index (some (reroutedRecord s r w))))

/-- The walk run afresh for a DISPLACED record (R38). -/
def rerouteRecord (index gen : Nat) (r : CallRecord) (s : State) : Reply × State :=
  match selectRoute r.dest r.cls (r.inbound.map (·.group)) s with
  | (.error reason, s') => (Reply.noRoute reason, s')
  | (.ok w, s') => completeReroute index gen r w s'

/-- RSE serves a REROUTE (R38). -/
def rerouteCall (p : PortId) (index gen : Nat) (s : State) : Reply × State :=
  match findOwnCall s p index gen with
  | .error e => (Reply.plain e, s)
  | .ok r =>
    match r.state with
    | .displaced => rerouteRecord index gen r s
    | .reserved => (Reply.plain .wrongState, s)
    | .seized => (Reply.plain .wrongState, s)
    | .answered => (Reply.plain .wrongState, s)

/-- REROUTE. -/
def execReroute (r : Requester) (index gen : Nat) (s : State) : Host.Outcome State Fault Refusal :=
  serve r (.reroute r index gen) (rerouteCall r.port index gen) s

end Sys2Proof.Machine
end

