-- ==== Sys2Proof/Machine/Dispatch.lean ====
section
/-! DEFINITION. The meaning of every command: one arm for each row of spec/opcode_table.json. -/

namespace Sys2Proof.Machine

-- The effect of one command on everything but the queue of commands.
def exec (i : Instr) (s : State) : Host.Outcome State Fault Refusal :=
  match i with
  | .powerOnReset pins => Sys2Proof.Machine.execPowerOnReset pins s
  | .millisecondTick => Sys2Proof.Machine.execMillisecondTick s
  | .lineIndicationLost p => Sys2Proof.Machine.execLineIndicationLost p s
  | .lineIndicationGood p => Sys2Proof.Machine.execLineIndicationGood p s
  | .linkUp p => Sys2Proof.Machine.execLinkUp p s
  | .frameArrival p bytes stopFault => Sys2Proof.Machine.execFrameArrival p bytes stopFault s
  | .engineGrant => Sys2Proof.Machine.execEngineGrant s
  | .replySent p => Sys2Proof.Machine.execReplySent p s
  | .route r dest cls inbound => Sys2Proof.Machine.execRoute r dest cls inbound s
  | .confirm r index gen => Sys2Proof.Machine.execConfirm r index gen s
  | .answer r index gen => Sys2Proof.Machine.execAnswer r index gen s
  | .release r index gen => Sys2Proof.Machine.execRelease r index gen s
  | .reroute r index gen => Sys2Proof.Machine.execReroute r index gen s
  | .queryCall r index gen => Sys2Proof.Machine.execQueryCall r index gen s
  | .guardExpiry index => Sys2Proof.Machine.execGuardExpiry index s
  | .setGuard r seconds => Sys2Proof.Machine.execSetGuard r seconds s
  | .adoptPort r fromPort toPort => Sys2Proof.Machine.execAdoptPort r fromPort toPort s
  | .exchangeRestart r => Sys2Proof.Machine.execExchangeRestart r s
  | .defineGroupDefine r group arg => Sys2Proof.Machine.execDefineGroupDefine r group arg s
  | .defineGroupRemove r group form => Sys2Proof.Machine.execDefineGroupRemove r group form s
  | .setGroupStateBlock r group => Sys2Proof.Machine.execSetGroupStateBlock r group s
  | .setGroupStateUnblock r group form => Sys2Proof.Machine.execSetGroupStateUnblock r group form s
  | .setReserve r group reserve => Sys2Proof.Machine.execSetReserve r group reserve s
  | .circuitMaintOut r circuit => Sys2Proof.Machine.execCircuitMaintOut r circuit s
  | .circuitMaintReturn r circuit form => Sys2Proof.Machine.execCircuitMaintReturn r circuit form s
  | .readGroupSummary r group form => Sys2Proof.Machine.execReadGroupSummary r group form s
  | .readGroupCircuit r group start n => Sys2Proof.Machine.execReadGroupCircuit r group start n s
  | .readGroupFreeList r group start n => Sys2Proof.Machine.execReadGroupFreeList r group start n s
  | .writeDest r dest rotate choices => Sys2Proof.Machine.execWriteDest r dest rotate choices s
  | .writeRouteSet r set entries => Sys2Proof.Machine.execWriteRouteSet r set entries s
  | .maskChoice r dest position mask => Sys2Proof.Machine.execMaskChoice r dest position mask s
  | .setFirst r dest position => Sys2Proof.Machine.execSetFirst r dest position s
  | .readDestDestination r dest => Sys2Proof.Machine.execReadDestDestination r dest s
  | .readDestRouteSet r form set => Sys2Proof.Machine.execReadDestRouteSet r form set s
  | .farCongestion r dest gap duration => Sys2Proof.Machine.execFarCongestion r dest gap duration s
  | .farClear r dest => Sys2Proof.Machine.execFarClear r dest s
  | .gapExpiry dest => Sys2Proof.Machine.execGapExpiry dest s
  | .restrictionEnd dest => Sys2Proof.Machine.execRestrictionEnd dest s
  | .periodEnd => Sys2Proof.Machine.execPeriodEnd s
  | .writeProfile r profile arg => Sys2Proof.Machine.execWriteProfile r profile arg s
  | .setPeriod r code => Sys2Proof.Machine.execSetPeriod r code s
  | .readCongestionGroup r first count => Sys2Proof.Machine.execReadCongestionGroup r first count s
  | .readCongestionProfile r profile => Sys2Proof.Machine.execReadCongestionProfile r profile s
  | .readCongestionPeriod r form => Sys2Proof.Machine.execReadCongestionPeriod r form s
  | .writeLocalOffer r carrier slots => Sys2Proof.Machine.execWriteLocalOffer r carrier slots s
  | .writeCarrierOffer r carrier slots => Sys2Proof.Machine.execWriteCarrierOffer r carrier slots s
  | .confirmAgreement r carrier slot => Sys2Proof.Machine.execConfirmAgreement r carrier slot s
  | .withdrawAgreement r carrier => Sys2Proof.Machine.execWithdrawAgreement r carrier s
  | .readAgreement r first count => Sys2Proof.Machine.execReadAgreement r first count s
  | .writeTariff r carrier slot arg => Sys2Proof.Machine.execWriteTariff r carrier slot arg s
  | .writeBands r points => Sys2Proof.Machine.execWriteBands r points s
  | .readTariffClass r copy carrier slot => Sys2Proof.Machine.execReadTariffClass r copy carrier slot s
  | .readTariffBand r form copy => Sys2Proof.Machine.execReadTariffBand r form copy s
  | .closePeriod r => Sys2Proof.Machine.execClosePeriod r s
  | .automaticClose => Sys2Proof.Machine.execAutomaticClose s
  | .setAutoCloseOff r => Sys2Proof.Machine.execSetAutoCloseOff r s
  | .setAutoCloseSecond r form second => Sys2Proof.Machine.execSetAutoCloseSecond r form second s
  | .readBank r bank first count => Sys2Proof.Machine.execReadBank r bank first count s
  | .releaseBank r bank => Sys2Proof.Machine.execReleaseBank r bank s
  | .setTime r day second milli => Sys2Proof.Machine.execSetTime r day second milli s
  | .readTime r => Sys2Proof.Machine.execReadTime r s
  | .takeNotices r => Sys2Proof.Machine.execTakeNotices r s
  | .setNoticeMask r mask => Sys2Proof.Machine.execSetNoticeMask r mask s
  | .portStatus r port => Sys2Proof.Machine.execPortStatus r port s
  | .identify r => Sys2Proof.Machine.execIdentify r s

end Sys2Proof.Machine
end

