-- ==== Sys2Proof/Safety.lean ====
section
/-! DEFINITION. What a good state of the part is, in the terms that statements use: one predicate for each family of rules that hold of every state, and the comparison of two states block by block. -/

namespace Sys2Proof.Machine

/-! ### Comparing states -/

/-- No block but those listed differs between the two states, nor the queue of commands. -/
structure State.SameBut (bs : List Block) (s t : State) : Prop where
  pct : Block.pct ∈ bs ∨ t.pct = s.pct
  cpl : Block.cpl ∈ bs ∨ t.cpl = s.cpl
  crt : Block.crt ∈ bs ∨ t.crt = s.crt
  rse : Block.rse ∈ bs ∨ t.rse = s.rse
  cmn : Block.cmn ∈ bs ∨ t.cmn = s.cmn
  cau : Block.cau ∈ bs ∨ t.cau = s.cau
  hru : Block.hru ∈ bs ∨ t.hru = s.hru
  sts : Block.sts ∈ bs ∨ t.sts = s.sts
  tmb : Block.tmb ∈ bs ∨ t.tmb = s.tmb
  pending : t.pending = s.pending

/-- Every port but `p` is the same in the two states. -/
def State.OtherPorts (p : PortId) (s t : State) : Prop := ∀ p', p' ≠ p → t.port p' = s.port p'

/-- `q'` is port `q` after its head `h`, which became head at running time `now`, has been answered at once with `e` (R165, R167). -/
def Port.RefusedAtOnce (now : Nat) (q : Port) (h : Request) (e : Result) (q' : Port) : Prop :=
  q' = { q with stage := .answered, headAt := now, replies := q.replies ++ [⟨false, replyFrame h.tag ⟨e, []⟩⟩] }

/-- `q'` is port `q` after its new head `h` has been examined at running time `now`, by the checks of R165 in their order: a code that no kind of the catalogue has is answered BAD_REQUEST, a body of the wrong length BAD_REQUEST, a kind that the catalogue does not permit to the role NOT_PERMITTED; a head that passes waits for the engine where RSE owns its kind, and is checked otherwise (R165 to R167). -/
def Port.HeadTaken (now : Nat) (q : Port) (h : Request) (q' : Port) : Prop :=
  ((∀ k, kindCode k ≠ h.kind.toNat) → q.RefusedAtOnce now h .badRequest q')
  ∧ ∀ k, kindCode k = h.kind.toNat →
    (lengthOk k h.body = false → q.RefusedAtOnce now h .badRequest q')
    ∧ (lengthOk k h.body = true → permits k q.role = false → q.RefusedAtOnce now h .notPermitted q')
    ∧ (lengthOk k h.body = true → permits k q.role = true →
      q' = { q with stage := if kindOwner k = .rse then .waiting else .checked, headAt := now })

/-- Group `g` after the circuits that a record holds have been freed, the outbound circuit before the inbound one (R20, R13). -/
def CallRecord.freesIn (s : State) (r : CallRecord) (g : Nat) (x : Group) : Group :=
  let y := match r.outbound with
    | some o => if o.group = g then groupAfterFreeing o.circuit (s.circuit o.circuit).mark x else x
    | none => x
  match r.inbound with
  | some b => if b.group = g then groupAfterFreeing b.circuit (s.circuit b.circuit).mark y else y
  | none => y

/-- The notices of the drains that the freeing of a record's circuits completes, the outbound group's before the inbound group's (R13, R20): GROUP_DRAINED of a DRAINING group whose busy count the freed circuit takes to 0. -/
def CallRecord.drained (s : State) (r : CallRecord) : List NoticeBody :=
  let outbound := match r.outbound with
    | some o => if (s.group o.group).any (fun x => decide (x.state = .draining ∧ x.busy ≤ 1)) then
        [.groupDrained o.group] else []
    | none => []
  let inbound := match r.inbound with
    | some b => if (s.group b.group).any (fun x => decide (x.state = .draining ∧
        if r.outbound.any (fun o => decide (o.group = b.group)) then x.busy = 2 else x.busy ≤ 1)) then
        [.groupDrained b.group] else []
    | none => []
  outbound ++ inbound

/-- The state after notices have been raised to every port, one after the other (R178). -/
def State.raiseEach (s : State) (l : List NoticeBody) : State := l.foldl State.raiseAll s

/-- `q'` is port `q` after a notice of category `bit` with the given time stamp has been handed to it (R178 to R180): left as it was on a DOWN link, on an OFF port or under a mask that does not admit the category; otherwise joined by the notice with the attention line driven, or, with 32 notices queued, by NOTICE_LOST alone. -/
def Port.Offered (b : NoticeBody) (bit stamp : Nat) (q q' : Port) : Prop :=
  (q.link = .down ∨ q.role = .off ∨ q.mask.getLsbD bit = false → q' = q)
  ∧ (q.link = .up → q.role ≠ .off → q.mask.getLsbD bit = true →
    (q.notices.length < 32 → q' = { q with notices := q.notices ++ [⟨b, stamp⟩], attention := true })
    ∧ (32 ≤ q.notices.length → q' = { q with noticeLost := true }))

/-- `d'` is destination `d` after a call of class `cls` has been placed by the walk's winner `w` at running time `now` (R66, R75, R76): the winner's position has gone to the end of its rank's order exactly where the rank rotates, and an ORDINARY or LOW call, which comes no sooner than the next-admit time, has moved the restriction. -/
structure Dest.Placed (now : Nat) (cls : CallClass) (w : Winner) (d d' : Dest) : Prop where
  routes : d'.routes = d.routes ∧ d'.rotate = d.rotate
  moved : rotates d w.rank = true →
    Table.get [] d'.orders w.rank = (Table.get [] d.orders w.rank).erase w.position ++ [w.position]
  still : ∀ k, k ≠ w.rank ∨ rotates d w.rank = false → Table.get [] d'.orders k = Table.get [] d.orders k
  opened : d.restriction = none → d'.restriction = none
  gapped : ∀ x, d.restriction = some x → cls = .ordinary ∨ cls = .low →
    x.nextAdmit ≤ now ∧ d'.restriction = some { x with lastAdmit := some now, nextAdmit := now + x.gap * 100 }
  ungapped : ∀ x, d.restriction = some x → cls = .emergency ∨ cls = .priority → d'.restriction = some x

/-- Candidate `a` is yielded before candidate `b` of the same walk (R60): by rank; within a rank by its order where the rank rotates and by position otherwise; and within one CHAINED choice by the order of its set. -/
def YieldedBefore (s : State) (d : Dest) (a b : Candidate) : Prop :=
  a.rank < b.rank ∨ (a.rank = b.rank
    ∧ ((if rotates d a.rank = true then
          (Table.get [] d.orders a.rank).idxOf a.position < (Table.get [] d.orders a.rank).idxOf b.position
        else a.position < b.position)
      ∨ (a.position = b.position ∧ ∃ c n, d.routes[a.position]? = some c ∧ c.target = .chained n
        ∧ (s.routeSet n).idxOf a.group < (s.routeSet n).idxOf b.group)))

/-- Whether a candidate's group with record `r` passes every skip test of R61 but the last, that of having been examined already. -/
def Usable (s : State) (inbound : Option Nat) (c : Candidate) (r : Group) : Prop :=
  s.group c.group = some r ∧ c.masked = false ∧ r.state = .inService ∧ r.direction ≠ .incoming
    ∧ inbound ≠ some c.group ∧ (r.carrier = 0 ∨ s.isConfirmed r.carrier = true)

/-- Whether an examined group with record `r` admits a call (R62 to R64). -/
def Admits (s : State) (cls : CallClass) (c : Candidate) (r : Group) : Prop :=
  admits (trafficOf cls c.rank) (s.congestion c.group).level r.freeList.length r.reserve r.count = true

/-! ### Ports (R156, R157, R159, R160, R164 to R167, R177, R180, R183) -/

/-- What every port keeps to. -/
structure Port.Inv (q : Port) : Prop where
  /-- At most two requests (R164). -/
  fifo_length : q.fifo.length ≤ Config.fifoDepth
  /-- The head stage is none exactly when the FIFO is empty (R156). -/
  stage_noHead : q.stage = .noHead ↔ q.fifo = []
  /-- Only requests of the blocks other than RSE stand checked (R57): R166 hands such a head on, and that it keeps this stage until its row serves it is the model's choice (log entry 14). -/
  stage_checked : q.stage = .checked → ∀ h ∈ q.fifo.head?, ownedByEngine h = false
  /-- At most seven HOLD replies (R156, R164). -/
  holds : holdCount q ≤ Config.maxHolds
  /-- One served reply while the head is answered, and none otherwise (R156, R167). -/
  served : (q.replies.countP fun f => !f.hold) = if q.stage = .answered then 1 else 0
  /-- At most 32 notices (R177). -/
  notices_length : q.notices.length ≤ Config.maxNotices
  /-- The attention line (R180). -/
  attention : q.attention = (decide (q.link = .up) && !q.notices.isEmpty)
  /-- A link that is DOWN leaves nothing queued (R160, R177). -/
  down : q.link = .down → q.fifo = [] ∧ q.replies = [] ∧ q.notices = []
  /-- A link is UP only over a GOOD line of a port that is not OFF (R157, R160). -/
  up : q.link = .up → q.line = .good ∧ q.role ≠ .off
  /-- A head that has been handed on passed the three checks (R165, R166). -/
  permitted : q.stage = .waiting ∨ q.stage = .inService ∨ q.stage = .checked → ∀ h ∈ q.fifo.head?, headRefusal q.role h = none
  /-- Only requests of RSE wait and are put in service by a grant (R156, R166); that no other head takes the stage in service is the model's choice (log entry 14). -/
  waiting : q.stage = .waiting ∨ q.stage = .inService → ∀ h ∈ q.fifo.head?, ownedByEngine h = true
  /-- The latched flags of an OFF port stay clear, since it takes no frame and no notice (R183). -/
  offFlags : q.role = .off → q.badFrame = false ∧ q.linkLost = false ∧ q.noticeLost = false
  /-- What a link loss left in service had passed the checks (R160, R165). -/
  detached : ∀ h ∈ q.detached, headRefusal q.role h = none

/-- Every port keeps to `Port.Inv`. -/
def State.PortsInv (s : State) : Prop := ∀ p, (s.port p).Inv

/-- How many requests of RSE a port has in service, at its head or detached. -/
def Port.engineLoad (q : Port) : Nat :=
  (if headInService q ownedByEngine then 1 else 0) + q.detached.countP ownedByEngine

/-- RSE has at most one request in service (R57). -/
def State.EngineInv (s : State) : Prop :=
  s.pct.p0.engineLoad + s.pct.p1.engineLoad + s.pct.p2.engineLoad + s.pct.p3.engineLoad ≤ 1

/-! ### Time (R146, R147, R149) -/

/-- The clocks and the automatic close setting lie in their ranges, and no line has been GOOD, nor a head been head (the model's own `headAt`, log entry 14), since a time to come. -/
structure State.ClockInv (s : State) : Prop where
  running : s.tmb.running ≤ Config.maxCount48
  day : s.tmb.day < Config.wrap16
  second : s.tmb.second ≤ Config.lastSecond
  milli : s.tmb.milli ≤ 999
  autoClose : ∀ n ∈ s.sts.autoClose, n ≤ Config.lastSecond
  goodSince : ∀ p, (s.port p).goodSince ≤ s.now
  headAt : ∀ p, (s.port p).headAt ≤ s.now

/-- No deadline, end time or period end has been passed over (R149), and no link that was due to go UP (R159). -/
structure State.DeadlineInv (s : State) : Prop where
  guard : ∀ i r d, s.call i = some r → r.deadline = some d → s.now ≤ d
  restriction : ∀ n x, (s.dest n).restriction = some x → s.now ≤ x.endTime
  period : s.now ≤ s.cmn.nextPeriodEnd
  link : ∀ p, (s.port p).role ≠ .off → (s.port p).link = .down → (s.port p).line = .good →
    s.now ≤ (s.port p).goodSince + Config.linkUpDelay

/-! ### Settlement (R132, R133, R135) -/

/-- Every field of a carrier settlement record lies in its range (R133). -/
structure SettlementRecord.Inv (r : SettlementRecord) : Prop where
  payable : r.payable ≤ Config.maxCount48
  receivable : r.receivable ≤ Config.maxCount48
  payableLegs : r.payableLegs ≤ Config.maxCount32
  receivableLegs : r.receivableLegs ≤ Config.maxCount32
  unanswered : r.unanswered ≤ Config.maxCount32
  steps : r.steps ≤ Config.maxCount32

/-- What the bank that is not ACTIVE may be, when the ACTIVE bank has period number `p` (R132, R135). -/
def idleBankOk (p : Nat) (deferred : Bool) (b : Bank) : Prop :=
  match b.state with
  | .active _ _ => False
  | .collectable p' _ _ => p' < Config.wrap16 ∧ (p' + 1) % Config.wrap16 = p
  | .available => b.records = [] ∧ deferred = false

/-- Exactly one bank is ACTIVE, the one that the index names; the other is COLLECTABLE with the period before, or AVAILABLE and empty; a deferred close waits only for a COLLECTABLE bank (R135). -/
structure State.BankInv (s : State) : Prop where
  active : ∃ p opened, (s.bank s.sts.activeBank).state = .active p opened ∧ p < Config.wrap16
    ∧ idleBankOk p s.sts.closeDeferred (s.bank (otherBank s.sts.activeBank))
  amounts : ∀ k c, ((s.bank k).record c).Inv

/-! ### Agreements (R101, R103) -/

/-- A record's offers are valid, and its state is the one that resolution gives, or one that a report of the far carrier has made of MATCHED (R101, R103, R106). -/
structure Agreement.Inv (a : Agreement) : Prop where
  offer : slotsValid a.localOffer = true
  carrierOffer : ∀ l ∈ a.carrierOffer, l = slotSet l
  state : a.state = resolved a.localOffer a.carrierOffer
    ∨ ∃ n, resolved a.localOffer a.carrierOffer = .matched n ∧ (a.state = .confirmed n ∨ a.state = .mismatch)

/-- Every agreement record keeps to `Agreement.Inv`. -/
def State.AgreementInv (s : State) : Prop := ∀ c, (s.agreement c).Inv

/-! ### Routing tables (R46 to R49, R71) -/

/-- Whether a choice's target and rank lie in their ranges (R47). -/
def Choice.inRange (c : Choice) : Prop :=
  c.rank ≤ 7 ∧ match c.target with
    | .direct g => g ≤ Config.lastGroup
    | .chained n => n ≤ Config.lastSet

/-- A destination's choices lie in range, and each rotating rank's order holds the positions of exactly its choices, each once (R46, R47). -/
structure Dest.Inv (d : Dest) : Prop where
  length : d.routes.length ≤ Config.maxChoices
  choices : ∀ c ∈ d.routes, c.inRange
  orders : ∀ k, if rotates d k = true then (Table.get [] d.orders k).Perm (positionsOfRank d.routes k)
    else Table.get [] d.orders k = []

/-- Every destination and every route set is as R46 to R48 say. -/
structure State.RouteInv (s : State) : Prop where
  dests : ∀ n, (s.dest n).Inv
  sets : ∀ n, (s.routeSet n).Nodup ∧ (s.routeSet n).length ≤ Config.maxChoices
    ∧ ∀ g ∈ s.routeSet n, g ≤ Config.lastGroup

/-- A restriction at running time `now`: its interval in range, and its next-admit time one interval behind the last admission, or not yet to come where none has been (R71, R73, R74, R76). -/
structure Restriction.Inv (now : Nat) (x : Restriction) : Prop where
  gap : 1 ≤ x.gap ∧ x.gap ≤ Config.maxGap
  admitted : ∀ t ∈ x.lastAdmit, t ≤ now ∧ x.nextAdmit = t + gapMs x.gap
  fresh : x.lastAdmit = none → x.nextAdmit ≤ now

/-- Every restriction keeps to `Restriction.Inv`. -/
def State.RestrictionInv (s : State) : Prop :=
  ∀ n x, (s.dest n).restriction = some x → x.Inv s.now

/-! ### The canonical form of the tables -/

/-- Every table is in canonical form, with its numbers in range. -/
structure State.TablesInv (s : State) : Prop where
  groups : Table.wf none Config.lastGroup s.cpl.groups = true
  circuits : Table.wf Circuit.idle Config.lastCircuit s.cpl.circuits = true
  calls : Table.wf none (Config.callRecords - 1) s.crt.calls = true
  gens : Table.wf 0 (Config.callRecords - 1) s.crt.gens = true
  dests : Table.wf Dest.reset Config.lastDest s.rse.dests = true
  orders : ∀ n, Table.wf [] 7 (s.dest n).orders = true
  sets : Table.wf [] Config.lastSet s.rse.sets = true
  congestion : Table.wf CongestionRecord.zero Config.lastGroup s.cmn.records = true
  inForce : Table.wf resetProfile 7 s.cmn.inForce = true
  staged : Table.wf resetProfile 7 s.cmn.staged = true
  agreements : Table.wf Agreement.reset Config.lastCarrier s.cau.records = true
  tariffs : Table.wf resetTariff (tariffKey Config.lastCarrier 3) s.hru.inForce = true
  pendingTariffs : Table.wf resetTariff (tariffKey Config.lastCarrier 3) s.hru.pendingClasses = true
  bankA : Table.wf SettlementRecord.zero Config.lastCarrier s.sts.bankA.records = true
  bankB : Table.wf SettlementRecord.zero Config.lastCarrier s.sts.bankB.records = true

/-! ### Call records (R24, R25) -/

/-- The free-record queue holds the index of every free record once, and of no live one; generations are 8 bits (R25). -/
structure State.QueueInv (s : State) : Prop where
  nodup : (queueList s.crt.queue).Nodup
  free : ∀ i, i ∈ queueList s.crt.queue ↔ i < Config.callRecords ∧ s.call i = none
  gens : ∀ i, s.gen i < Config.generations

/-- The circuits that a record holds. -/
def CallRecord.circuits (r : CallRecord) : List Nat :=
  r.outbound.toList.map (fun o => o.circuit) ++ r.inbound.toList.map (fun b => b.circuit)

/-- Which optional fields a live record holds in each state (R24). -/
structure CallRecord.Shape (r : CallRecord) : Prop where
  dest : r.dest ≤ Config.lastDest
  outbound : r.outbound = none ↔ r.state = .displaced
  deadline : r.deadline = none ↔ r.state = .seized ∨ r.state = .answered
  answer : r.answer = none ↔ r.state ≠ .answered

/-! ### The circuit pool (R1 to R6) -/

/-- Whether a circuit is held by a call (R2). -/
def Circuit.held (v : Circuit) : Bool := decide (v.state = .reserved) || decide (v.state = .busy)

/-- A defined group's fields lie in their ranges (R1). -/
structure Group.InRange (r : Group) : Prop where
  count : 1 ≤ r.count ∧ r.count ≤ Config.maxGroupCircuits
  last : r.first + r.count ≤ Config.lastCircuit + 1
  carrier : r.carrier ≤ Config.lastCarrier
  reserve : r.reserve ≤ r.count
  profile : r.profile ≤ 7

/-- A defined group against the circuits of its range (R2, R4, R5, R6). -/
structure State.GroupInv (s : State) (r : Group) : Prop where
  range : r.InRange
  free_nodup : r.freeList.Nodup
  /-- A circuit stands in the free list exactly when it is an IDLE circuit of the group (R2, R4). -/
  free : ∀ c, c ∈ r.freeList ↔ groupHolds c r = true ∧ (s.circuit c).state = .idle
  /-- The busy count counts the RESERVED and BUSY circuits (R5). -/
  busy : r.busy = (circuitRange r.first r.count).countP fun c => (s.circuit c).held
  blocked : r.state = .blocked → r.busy = 0
  draining : r.state = .draining → 0 < r.busy

/-- A live record against the circuits that it holds (R2, R24, R112, R113). -/
structure State.CallInv (s : State) (r : CallRecord) : Prop where
  shape : r.Shape
  circuits_nodup : r.circuits.Nodup
  outbound : ∀ o ∈ r.outbound, (∃ g, s.group o.group = some g ∧ groupHolds o.circuit g = true)
    ∧ (s.circuit o.circuit).state = (if r.state = .reserved then .reserved else .busy)
    ∧ (o.payable = none ↔ s.carrierOf o.group = 0)
  inbound : ∀ b ∈ r.inbound, (∃ g, s.group b.group = some g ∧ groupHolds b.circuit g = true)
    ∧ (s.circuit b.circuit).state = .busy
    ∧ (b.receivable = none ↔ s.carrierOf b.group = 0)

/-- The circuit pool and the call records agree: ranges do not meet, each group counts and lists its circuits rightly, each held circuit is held by exactly one live record in the state that the record's own state asks for (R2 to R6, R24). -/
structure State.PoolInv (s : State) : Prop where
  groups : ∀ g r, s.group g = some r → s.GroupInv r
  apart : ∀ g r g' r' c, s.group g = some r → s.group g' = some r' → groupHolds c r = true →
    groupHolds c r' = true → g = g'
  assigned : ∀ c, s.circuit c ≠ Circuit.idle → ∃ g r, s.group g = some r ∧ groupHolds c r = true
  marks : ∀ c, (s.circuit c).mark = true → (s.circuit c).held = true
  calls : ∀ i r, s.call i = some r → s.CallInv r
  held : ∀ c, (s.circuit c).held = true → ∃ i r, s.call i = some r ∧ c ∈ r.circuits
  once : ∀ i r j r' c, s.call i = some r → s.call j = some r' → c ∈ r.circuits → c ∈ r'.circuits → i = j

/-! ### Congestion (R84, R85, R89, R90, R92) -/

/-- A congestion record's fields lie in their ranges (R84), refusals never exceed attempts (R85), and the latch is never below the level (R91). -/
structure CongestionRecord.Inv (r : CongestionRecord) : Prop where
  index : r.index ≤ Config.full
  level : r.level ≤ r.peak
  peak : r.peak ≤ 3
  refusals : r.refusals ≤ r.attempts
  attempts : r.attempts ≤ Config.maxCount32

/-- The values of a profile lie in their ranges (R92). -/
structure profileOk (p : Profile) : Prop where
  thresholds : thresholdsValid p = true
  hysteresis : p.hysteresis ≤ 1023
  shift : p.shift ≤ 4

/-- CMN's records, profiles and period codes are as R84 to R92 say. -/
structure State.CongestionInv (s : State) : Prop where
  records : ∀ g, (s.congestion g).Inv
  undefined : ∀ g, s.group g = none → s.congestion g = CongestionRecord.zero
  profiles : ∀ n, profileOk (s.profile n) ∧ profileOk (s.stagedProfile n)
  periods : s.cmn.inForcePeriod ≤ 3 ∧ s.cmn.stagedPeriod ≤ 3

end Sys2Proof.Machine
end

