-- ==== Sys2Proof/WellFormed.lean ====
section
/-! DEFINITION. Well-formed commands: each operand lies in the width that R172 gives its field, each list fits a body of at most 248 bytes (R161), and each row carries only the forms that are its own (R173, log entry 6). A well-formed request command is exactly one that some request frame can ask for. -/

namespace Sys2Proof

/-- The number fits a field of one byte (R172). -/
def fits1 (n : Nat) : Bool := decide (n < 256)
/-- The number fits a field of two bytes (R172). -/
def fits2 (n : Nat) : Bool := decide (n < 65536)
/-- The number fits a field of three bytes (R172). -/
def fits3 (n : Nat) : Bool := decide (n < 16777216)

/-- An inbound circuit that is present is not the absent form 0xFFFF (R172, R175). -/
def inboundFits : Option Nat → Bool
  | none => true
  | some c => decide (c < 65535)

/-- The circuits of a maintenance set are listed once each, ascending, and each has a flag in the set's bytes (R172). -/
def maintFits (a : GroupArg) : Bool :=
  decide (a.maint.Pairwise (· < ·))
    && a.maint.all fun c => decide (a.first ≤ c) && decide (c < a.first + 8 * ((a.count + 7) / 8))

/-- The fields of a define form fit their widths, and its body fits a frame (R161, R170, R172). -/
def groupFits (a : GroupArg) : Bool :=
  fits2 a.first && fits2 a.count && fits1 a.direction && fits1 a.carrier && fits1 a.glare && fits2 a.reserve
    && fits1 a.profile && maintFits a && decide (12 + (a.count + 7) / 8 ≤ 248)

/-- A coded route choice fits its widths (R169, R172). -/
def choiceFits (c : ChoiceArg) : Bool := fits1 c.kind && fits2 c.target && fits1 c.rank && fits1 c.mask

/-- A coded entry of a route set fits its widths (R169, R172). -/
def entryFits (e : SetEntryArg) : Bool := fits1 e.kind && fits2 e.number

/-- The values of a profile fit their widths (R172). -/
def profileFits (p : Profile) : Bool :=
  fits2 p.u1 && fits2 p.u2 && fits2 p.u3 && fits2 p.hysteresis && fits1 p.shift

/-- The values of a tariff class fit their widths (R172). -/
def tariffFits (t : TariffClass) : Bool :=
  fits2 t.setup && fits2 t.step && fits2 t.minSteps && fits2 t.rate0 && fits2 t.rate1 && fits2 t.rate2
    && fits2 t.rate3 && fits1 t.surcharge1 && fits1 t.surcharge2 && fits1 t.surcharge3

/-- A coded switch point fits its widths (R172). -/
def pointFits (p : SwitchPoint) : Bool := fits3 p.second && fits1 p.band

/-- A list of `n` entries of `w` bytes behind `lead` bytes fits a body (R161). -/
def listFits (lead w n : Nat) : Bool := decide (lead + w * n ≤ 248)

/-- Well-formed commands. -/
def Instr.wf : Instr → Bool
  | .powerOnReset _ | .millisecondTick | .lineIndicationLost _ | .lineIndicationGood _ | .linkUp _
  | .frameArrival _ _ _ | .engineGrant | .replySent _ | .periodEnd | .automaticClose => true
  | .guardExpiry index => decide (index < 16384)
  | .gapExpiry dest => decide (dest < 4096)
  | .restrictionEnd dest => decide (dest < 4096)
  | .route _ dest cls inbound => fits2 dest && fits1 cls && inboundFits inbound
  | .confirm _ index gen => fits2 index && fits1 gen
  | .answer _ index gen => fits2 index && fits1 gen
  | .release _ index gen => fits2 index && fits1 gen
  | .reroute _ index gen => fits2 index && fits1 gen
  | .queryCall _ index gen => fits2 index && fits1 gen
  | .setGuard _ seconds => fits1 seconds
  | .adoptPort _ fromPort toPort => fits1 fromPort && fits1 toPort
  | .exchangeRestart _ => true
  | .defineGroupDefine _ group arg => fits1 group && groupFits arg
  | .defineGroupRemove _ group form => fits1 group && fits1 form && decide (form ≠ 0)
  | .setGroupStateBlock _ group => fits1 group
  | .setGroupStateUnblock _ group form => fits1 group && fits1 form && decide (form ≠ 0)
  | .setReserve _ group reserve => fits1 group && fits2 reserve
  | .circuitMaintOut _ circuit => fits2 circuit
  | .circuitMaintReturn _ circuit form => fits2 circuit && fits1 form && decide (form ≠ 0)
  | .readGroupSummary _ group form => fits1 group && fits1 form && decide (form ≠ 1 ∧ form ≠ 2)
  | .readGroupCircuit _ group start n => fits1 group && fits2 start && fits1 n
  | .readGroupFreeList _ group start n => fits1 group && fits2 start && fits1 n
  | .writeDest _ dest _ choices => fits2 dest && choices.all choiceFits && listFits 4 5 choices.length
  | .writeRouteSet _ set entries => fits2 set && entries.all entryFits && listFits 3 3 entries.length
  | .maskChoice _ dest position mask => fits2 dest && fits1 position && fits1 mask
  | .setFirst _ dest position => fits2 dest && fits1 position
  | .readDestDestination _ dest => fits2 dest
  | .readDestRouteSet _ form set => fits1 form && fits2 set && decide (form ≠ 0)
  | .farCongestion _ dest gap duration => fits2 dest && fits2 gap && fits2 duration
  | .farClear _ dest => fits2 dest
  | .writeProfile _ profile arg => fits1 profile && profileFits arg
  | .setPeriod _ code => fits1 code
  | .readCongestionGroup _ first count => fits1 first && fits1 count
  | .readCongestionProfile _ profile => fits1 profile
  | .readCongestionPeriod _ form => fits1 form && decide (form ≠ 0 ∧ form ≠ 1)
  | .writeLocalOffer _ carrier slots => fits1 carrier && slots.all fits1 && listFits 2 1 slots.length
  | .writeCarrierOffer _ carrier slots => fits1 carrier && slots.all fits1 && listFits 2 1 slots.length
  | .confirmAgreement _ carrier slot => fits1 carrier && fits1 slot
  | .withdrawAgreement _ carrier => fits1 carrier
  | .readAgreement _ first count => fits1 first && fits1 count
  | .writeTariff _ carrier slot arg => fits1 carrier && fits1 slot && tariffFits arg
  | .writeBands _ points => points.all pointFits && listFits 1 4 points.length
  | .readTariffClass _ copy carrier slot => fits1 copy && fits1 carrier && fits1 slot
  | .readTariffBand _ form copy => fits1 form && fits1 copy && decide (form ≠ 0)
  | .closePeriod _ => true
  | .setAutoCloseOff _ => true
  | .setAutoCloseSecond _ form second => fits1 form && fits3 second && decide (form ≠ 0)
  | .readBank _ bank first count => fits1 bank && fits1 first && fits1 count
  | .releaseBank _ bank => fits1 bank
  | .setTime _ day second milli => fits2 day && fits3 second && fits2 milli
  | .readTime _ => true
  | .takeNotices _ => true
  | .setNoticeMask _ _ => true
  | .portStatus _ port => fits1 port
  | .identify _ => true

end Sys2Proof
end

