-- ==== Sys2Proof/Certificates/Slice0/Obligations.lean ====
section
/-! DEFINITION. The statements for the provers. A statement about a request command names the request in service (`State.inService`), says what the command writes, what it leaves (`State.SameBut`, and the accessors at every other number) and what its port answers: `(u.deliver r c a).pct` is the port state of `u` once the reply `a` has been delivered, which `Obligations.EveryRequestInServiceIsAnswered` spells out. -/

open Sys2Proof Sys2Proof.Machine

/-! ### The queue of commands, and serving -/

/-- A step runs the command at the front of the queue on the state with the queue's rest; on an empty queue the part idles, which is the model's choice (log entry 9). -/
def Obligations.StepRunsTheFrontCommand : Prop :=
  (∀ (c : Instr) (rest : List Instr) (s : State), s.pending = c :: rest →
    step s = exec c { s with pending := rest })
  ∧ ∀ s : State, s.pending = [] → step s = .next s

/-- No command faults or is refused by the model, and none touches the queue of commands: the part reports what goes wrong by a result code, a latched flag or a discarded frame (R162, R171, R183). A request command whose request does not stand in service changes nothing, which is the model's choice (log entry 3). -/
def Obligations.EveryCommandCompletes : Prop :=
  (∀ (c : Instr) (s : State), ∃ t, exec c s = .next t ∧ t.pending = s.pending)
  ∧ ∀ (c : Instr) (r : Requester) (s : State), c.requester? = some r → s.inService r c = false →
    exec c s = .next s

/-- A head in service, or checked and handed on with its serving (log entry 14), is served, and its reply joins the tail of its port's reply list behind what stood there, with the head's tag (R166, R167). A request that a link loss left in service is served, leaves its block, and nothing is sent for it (R160). -/
def Obligations.EveryRequestInServiceIsAnswered : Prop :=
  (∀ (c : Instr) (p : PortId) (s : State) (q : Request) (rest : List Request),
    c.requester? = some (.head p) → (s.port p).stage = .inService ∨ (s.port p).stage = .checked →
    (s.port p).fifo = q :: rest →
    asksFor (.head p) c q = true →
    ∃ t a, exec c s = .next t ∧ (t.port p).stage = .answered ∧ (t.port p).fifo = q :: rest
      ∧ (t.port p).replies = (s.port p).replies ++ [⟨false, replyFrame q.tag a⟩]
      ∧ ∀ p', p' ≠ p → (t.port p').fifo = (s.port p').fifo ∧ (t.port p').stage = (s.port p').stage
        ∧ (t.port p').replies = (s.port p').replies)
  ∧ ∀ (c : Instr) (p : PortId) (s : State), c.requester? = some (.detached p) →
    (s.port p).detached.any (asksFor (.detached p) c) = true →
    ∃ t, exec c s = .next t
      ∧ (t.port p).detached = (s.port p).detached.eraseP (asksFor (.detached p) c)
      ∧ ∀ p', (t.port p').fifo = (s.port p').fifo ∧ (t.port p').stage = (s.port p').stage
        ∧ (t.port p').replies = (s.port p').replies

/-- A request that the loss of its link finds in service has the effects of its rule in full: whether it is served before the loss or after it, every block but PCT ends the same (R160). A loss that meets the arrival of a frame, or the end of sending a served reply, and is taken after it, discards the request that has just become head: nothing more is left in service than stood so before, and no frame is left to send (rows 4 and 5 of R168; that the two meet within one millisecond is the model's choice, log entry 14). -/
def Obligations.LinkLossCostsOnlyTheReply : Prop :=
  (∀ (k : Kind) (b : List Byte) (p : PortId) (s t u : State), (s.port p).link = .up →
    (s.port p).stage = .inService ∨ ((s.port p).stage = .checked ∧ (s.port p).headAt < s.now) →
    s.inService (.head p) (commandOf (.head p) k b) = true →
    exec (commandOf (.head p) k b) s = .next t →
    exec (commandOf (.detached p) k b) (s.setPort p (lineLost s.now (s.port p))) = .next u →
    State.SameBut [.pct] t u)
  ∧ ∀ (c : Instr) (p : PortId) (s : State) (left : List Request), (s.port p).link = .up →
    (s.port p).line = .good → (s.port p).goodSince + 20 ≤ s.now →
    ((∃ bytes fault, c = .frameArrival p bytes fault
        ∧ left = (if (s.port p).stage = .inService ∨ ((s.port p).stage = .checked ∧ (s.port p).headAt < s.now)
          then (s.port p).fifo.head?.toList else []))
      ∨ (∃ f rest, c = .replySent p ∧ (s.port p).replies = f :: rest ∧ f.hold = false ∧ left = [])) →
    ∃ t u, exec c s = .next t ∧ exec (.lineIndicationLost p) t = .next u
      ∧ (u.port p).link = .down ∧ (u.port p).fifo = [] ∧ (u.port p).replies = [] ∧ (u.port p).stage = .noHead
      ∧ (u.port p).detached = (s.port p).detached ++ left ∧ s.OtherPorts p u ∧ s.SameBut [.pct] u

/-! ### Reset, lines and links -/

/-- POWER_ON_RESET from any state: every field takes the value that the spec gives it, the roles those of the pins (R7, R25, R42, R46, R48, R58, R84, R86, R92, R102, R116, R118, R134, R155, R156, R157, R177). -/
def Obligations.PowerOnResetSetsEveryBlock : Prop :=
  ∀ (pins : RolePins) (s : State), ∃ t, exec (.powerOnReset pins) s = .next t ∧ t.pending = s.pending
    ∧ (∀ p x, ((p = .p0 ∧ x = pins.p0) ∨ (p = .p1 ∧ x = pins.p1) ∨ (p = .p2 ∧ x = pins.p2)
        ∨ (p = .p3 ∧ x = pins.p3)) →
      (t.port p).role = (if x.first then (if x.second then .both else .mgmt)
        else if x.second then .call else .off))
    ∧ (∀ p, (t.port p).line = .lost ∧ (t.port p).link = .down ∧ (t.port p).fifo = []
      ∧ (t.port p).stage = .noHead ∧ (t.port p).replies = [] ∧ (t.port p).badFrame = false
      ∧ (t.port p).linkLost = false ∧ (t.port p).noticeLost = false ∧ (t.port p).notices = []
      ∧ (∀ b, maskAdmits (t.port p) b = true) ∧ (t.port p).attention = false ∧ (t.port p).detached = [])
    ∧ (∀ g, t.group g = none) ∧ (∀ c, t.circuit c = Circuit.idle)
    ∧ (∀ i, t.call i = none ∧ t.gen i = 0)
    ∧ queueList t.crt.queue = List.range' 0 16384 ∧ t.crt.guardSeconds = 8
    ∧ (∀ n, (t.dest n).routes = [] ∧ (∀ k, rotates (t.dest n) k = false) ∧ (t.dest n).orders = []
      ∧ (t.dest n).restriction = none)
    ∧ (∀ n, t.routeSet n = []) ∧ t.rse.pointer = .p3
    ∧ (∀ g, t.congestion g = ⟨0, 0, 0, 0, 0⟩)
    ∧ (∀ n, t.profile n = ⟨2867, 3482, 3891, 205, 2⟩ ∧ t.stagedProfile n = ⟨2867, 3482, 3891, 205, 2⟩)
    ∧ t.cmn.inForcePeriod = 1 ∧ t.cmn.stagedPeriod = 1 ∧ t.cmn.nextPeriodEnd = 5000
    ∧ (∀ c, t.agreement c = ⟨[], none, .unset⟩)
    ∧ (∀ c n, t.tariff c n = ⟨0, 60, 0, 0, 0, 0, 0, 0, 0, 0⟩
      ∧ t.pendingTariff c n = ⟨0, 60, 0, 0, 0, 0, 0, 0, 0, 0⟩)
    ∧ t.hru.bands = [] ∧ t.hru.pendingBands = []
    ∧ (t.bank .a).state = .active 0 ⟨0, 0⟩ ∧ (t.bank .b).state = .available
    ∧ (∀ k c, (t.bank k).record c = ⟨0, 0, 0, 0, 0, 0, false⟩)
    ∧ t.sts.activeBank = .a ∧ t.sts.closeDeferred = false ∧ t.sts.autoClose = none
    ∧ t.tmb.running = 0 ∧ t.tmb.day = 0 ∧ t.tmb.second = 0 ∧ t.tmb.milli = 0

/-- LINE_INDICATION_LOST on a line that has been GOOD for 20 ms or more: the indication is LOST, and a link that was UP goes DOWN with its FIFO, reply list and notice queue emptied, a head in service detached, and LINK_LOST latched; role, mask and the other flags are kept, and no other port and no other block is touched (R158, R160, R177, R180). LINE_INDICATION_GOOD on a line that was LOST starts the count of 100 ms. LINK_UP takes the link of a port that is not OFF up once the line has stood GOOD for 100 ms, with an empty FIFO and reply list and its flags as they stood (R158, R159). A LINE_INDICATION_LOST or a LINK_UP that comes sooner does nothing, which is the model's choice (log entries 3 and 11). So is it that a checked head counts as in service for the loss, and is detached, from the millisecond after the one in which it became head, and is discarded until then (log entry 14). -/
def Obligations.LineIndicationsMoveTheLink : Prop :=
  (∀ (p : PortId) (s : State), (s.port p).line = .good → s.now < (s.port p).goodSince + 20 →
    exec (.lineIndicationLost p) s = .next s)
  ∧ (∀ (p : PortId) (s : State), (s.port p).line = .good → (s.port p).goodSince + 20 ≤ s.now →
    ∃ t, exec (.lineIndicationLost p) s = .next t
      ∧ ((s.port p).link = .up →
        (t.port p).link = .down ∧ (t.port p).fifo = [] ∧ (t.port p).stage = .noHead
        ∧ (t.port p).replies = [] ∧ (t.port p).notices = [] ∧ (t.port p).attention = false
        ∧ (t.port p).linkLost = true
        ∧ (t.port p).detached = (s.port p).detached
          ++ (if (s.port p).stage = .inService ∨ ((s.port p).stage = .checked ∧ (s.port p).headAt < s.now)
            then (s.port p).fifo.head?.toList else [])
        ∧ (t.port p).role = (s.port p).role ∧ (t.port p).mask = (s.port p).mask
        ∧ (t.port p).badFrame = (s.port p).badFrame ∧ (t.port p).noticeLost = (s.port p).noticeLost)
      ∧ ((s.port p).link = .down → t.port p = { s.port p with line := .lost })
      ∧ (t.port p).line = .lost ∧ s.OtherPorts p t ∧ s.SameBut [.pct] t)
  ∧ (∀ (p : PortId) (s : State), (s.port p).line = .lost →
    ∃ t, exec (.lineIndicationGood p) s = .next t
      ∧ t.port p = { s.port p with line := .good, goodSince := s.now }
      ∧ s.OtherPorts p t ∧ s.SameBut [.pct] t)
  ∧ ∀ (p : PortId) (s : State), (s.port p).link = .down → (s.port p).line = .good →
    (s.port p).role ≠ .off →
    ((s.port p).goodSince + 100 ≤ s.now →
      ∃ t, exec (.linkUp p) s = .next t ∧ (t.port p).link = .up ∧ (t.port p).fifo = []
        ∧ (t.port p).stage = .noHead ∧ (t.port p).replies = [] ∧ (t.port p).line = .good
        ∧ (t.port p).badFrame = (s.port p).badFrame ∧ (t.port p).linkLost = (s.port p).linkLost
        ∧ (t.port p).noticeLost = (s.port p).noticeLost ∧ (t.port p).notices = (s.port p).notices
        ∧ (t.port p).mask = (s.port p).mask ∧ (t.port p).role = (s.port p).role
        ∧ (t.port p).detached = (s.port p).detached
        ∧ s.OtherPorts p t ∧ s.SameBut [.pct] t)
    ∧ (s.now < (s.port p).goodSince + 100 → exec (.linkUp p) s = .next s)

/-! ### Frames and the request FIFO -/

/-- The frame that a master builds around any tag, kind and body of at most 248 bytes passes every check of R162, carries just those three, and is discarded when a character of it had a faulty stop element (R161, R162, R163, R174). The body that a master writes for a well-formed request command fits a frame, has the length that its kind requires, and asks for exactly that command: no operand of any of the 52 request rows is dropped (R169, R170, R172, R175). -/
def Obligations.RequestsRoundTrip : Prop :=
  (∀ (tag kind : Byte) (body : List Byte), body.length ≤ 248 →
    (requestFrame tag kind body).length = 7 + body.length
    ∧ intact (requestFrame tag kind body) false = true
    ∧ requestOf (requestFrame tag kind body) = ⟨tag, kind, body⟩
    ∧ intact (requestFrame tag kind body) true = false)
  ∧ ∀ (c : Instr) (r : Requester), c.wf = true → c.requester? = some r →
    ∃ k b, bodyOf c = some (k, b) ∧ b.length ≤ 248 ∧ lengthOk k b = true ∧ commandOf r k b = c

/-- From the line to the owning block: the frame of a well-formed command of a kind that the role permits, arriving on an UP port whose FIFO is empty, makes its request the head; the request stands with its block, to be served by its own row, or, where RSE owns it, waits and stands in service when the engine grants the port (R161 to R166, R169, R170, R174; the grant as a step of its own is log entry 4, the handing on of a checked head log entry 14). -/
def Obligations.WellFormedFramesReachService : Prop :=
  ∀ (c : Instr) (p : PortId) (s : State) (k : Kind) (b : List Byte) (tag : Byte), c.wf = true →
    c.requester? = some (.head p) → bodyOf c = some (k, b) → permits k (s.port p).role = true →
    (s.port p).link = .up → (s.port p).fifo = [] →
    ∃ t, exec (.frameArrival p (requestFrame tag (BitVec.ofNat 8 (kindCode k)) b) false) s = .next t
      ∧ (t.port p).fifo = [⟨tag, BitVec.ofNat 8 (kindCode k), b⟩]
      ∧ (t.port p).replies = (s.port p).replies ∧ s.OtherPorts p t ∧ s.SameBut [.pct] t
      ∧ (kindOwner k ≠ .rse → (t.port p).stage = .checked ∧ t.inService (.head p) c = true)
      ∧ (kindOwner k = .rse → (t.port p).stage = .waiting ∧ (grant p t).inService (.head p) c = true)

/-- A frame that arrives on a DOWN link changes nothing, and one that fails a check of R162 on an UP link latches BAD_FRAME and does nothing else (R159, R162). An intact frame meets its port's FIFO. With two requests there it is refused with a HOLD reply that echoes its tag, or dropped where seven HOLD replies wait. With one it joins the tail. With none it becomes the head and is examined (R164, R165, R166). The catalogue behind the examination: the code of each kind, the kinds that RSE owns and the roles of each (R169), and the length that each kind asks of its body (R170; that a kind of fixed length keeps it under an unknown form is the model's inference, log entry 18). A head that passes and that another block owns stands checked until it is handed on (log entry 14). -/
def Obligations.ArrivingFramesMeetTheFifo : Prop :=
  (∀ (p : PortId) (bytes : List Byte) (stopFault : Bool) (s : State),
    ((s.port p).link = .down → exec (.frameArrival p bytes stopFault) s = .next s)
    ∧ ((s.port p).link = .up → intact bytes stopFault = false →
      ∃ t, exec (.frameArrival p bytes stopFault) s = .next t
        ∧ t.port p = { s.port p with badFrame := true } ∧ s.OtherPorts p t ∧ s.SameBut [.pct] t))
  ∧ (∀ (p : PortId) (bytes : List Byte) (s : State), (s.port p).link = .up → intact bytes false = true →
    ∃ t, exec (.frameArrival p bytes false) s = .next t ∧ s.OtherPorts p t ∧ s.SameBut [.pct] t
      ∧ (2 ≤ (s.port p).fifo.length → holdCount (s.port p) < 7 →
        t.port p = { s.port p with
          replies := (s.port p).replies ++ [⟨true, replyFrame (requestOf bytes).tag ⟨.hold, []⟩⟩] })
      ∧ (2 ≤ (s.port p).fifo.length → 7 ≤ holdCount (s.port p) → t.port p = s.port p)
      ∧ ((s.port p).fifo.length = 1 →
        t.port p = { s.port p with fifo := (s.port p).fifo ++ [requestOf bytes] })
      ∧ ((s.port p).fifo = [] →
        Port.HeadTaken s.now { s.port p with fifo := [requestOf bytes] } (requestOf bytes) (t.port p)))
  ∧ (∀ k, (k, kindCode k) ∈ [(Kind.route, 0x10), (.confirm, 0x11), (.answer, 0x12), (.release, 0x13),
      (.reroute, 0x14), (.queryCall, 0x15), (.farCongestion, 0x18), (.farClear, 0x19), (.defineGroup, 0x20),
      (.setGroupState, 0x21), (.setReserve, 0x22), (.circuitMaint, 0x23), (.readGroup, 0x24), (.writeDest, 0x28),
      (.writeRouteSet, 0x29), (.maskChoice, 0x2A), (.setFirst, 0x2B), (.readDest, 0x2C), (.writeProfile, 0x30),
      (.setPeriod, 0x31), (.readCongestion, 0x32), (.writeLocalOffer, 0x38), (.writeCarrierOffer, 0x39),
      (.confirmAgreement, 0x3A), (.withdrawAgreement, 0x3B), (.readAgreement, 0x3C), (.writeTariff, 0x40),
      (.readTariff, 0x41), (.writeBands, 0x42), (.closePeriod, 0x43), (.setAutoClose, 0x44), (.readBank, 0x45),
      (.releaseBank, 0x46), (.setTime, 0x48), (.readTime, 0x49), (.setGuard, 0x4A), (.takeNotices, 0x50),
      (.setNoticeMask, 0x51), (.portStatus, 0x52), (.adoptPort, 0x53), (.exchangeRestart, 0x54), (.identify, 0x55)])
  ∧ (∀ k, kindOwner k = .rse ↔ k ∈ [.route, .reroute, .farCongestion, .farClear, .writeDest, .writeRouteSet,
      .maskChoice, .setFirst, .readDest])
  ∧ (∀ k role, permits k role = true ↔ role = .both
      ∨ (role = .call ∧ k ∈ [.route, .confirm, .answer, .release, .reroute])
      ∨ ((role = .call ∨ role = .mgmt) ∧ k ∈ [.queryCall, .farCongestion, .farClear, .readGroup, .readDest,
        .readCongestion, .readAgreement, .readTariff, .readBank, .readTime, .takeNotices, .setNoticeMask,
        .portStatus, .identify])
      ∨ (role = .mgmt ∧ k ∈ [.defineGroup, .setGroupState, .setReserve, .circuitMaint, .writeDest, .writeRouteSet,
        .maskChoice, .setFirst, .writeProfile, .setPeriod, .writeLocalOffer, .writeCarrierOffer, .confirmAgreement,
        .withdrawAgreement, .writeTariff, .writeBands, .closePeriod, .setAutoClose, .releaseBank, .setTime,
        .setGuard, .adoptPort, .exchangeRestart]))
  ∧ ∀ b : List Byte,
    (∀ e ∈ [(0, [Kind.closePeriod, .readTime, .takeNotices, .exchangeRestart, .identify]),
        (1, [.setPeriod, .withdrawAgreement, .releaseBank, .setGuard, .setNoticeMask, .portStatus]),
        (2, [.farClear, .setGroupState, .confirmAgreement, .readAgreement, .adoptPort]),
        (3, [.confirm, .answer, .release, .reroute, .queryCall, .setReserve, .circuitMaint, .setFirst, .readDest,
          .readBank]),
        (4, [.maskChoice, .setAutoClose]), (5, [.route]), (6, [.farCongestion]), (7, [.setTime]),
        (10, [.writeProfile]), (19, [.writeTariff])],
      ∀ k ∈ e.2, lengthOk k b = true ↔ b.length = e.1)
    ∧ (lengthOk .defineGroup b = true ↔ 2 ≤ b.length
      ∧ (field b 1 1 = 0 → 6 ≤ b.length ∧ b.length = 12 + (field b 4 2 + 7) / 8) ∧ (field b 1 1 = 1 → b.length = 2))
    ∧ (lengthOk .readGroup b = true ↔ 2 ≤ b.length ∧ (field b 1 1 = 0 → b.length = 2)
      ∧ (field b 1 1 = 1 ∨ field b 1 1 = 2 → b.length = 5))
    ∧ (lengthOk .readCongestion b = true ↔ 1 ≤ b.length ∧ (field b 0 1 = 0 → b.length = 3)
      ∧ (field b 0 1 = 1 → b.length = 2) ∧ (field b 0 1 = 2 → b.length = 1))
    ∧ (lengthOk .readTariff b = true ↔ 1 ≤ b.length ∧ (field b 0 1 = 0 → b.length = 4)
      ∧ (field b 0 1 = 1 → b.length = 2))
    ∧ (lengthOk .writeDest b = true ↔ 4 ≤ b.length ∧ b.length = 4 + 5 * field b 3 1)
    ∧ (lengthOk .writeRouteSet b = true ↔ 3 ≤ b.length ∧ b.length = 3 + 3 * field b 2 1)
    ∧ (∀ k ∈ [Kind.writeLocalOffer, .writeCarrierOffer],
      lengthOk k b = true ↔ 2 ≤ b.length ∧ b.length = 2 + field b 1 1)
    ∧ (lengthOk .writeBands b = true ↔ 1 ≤ b.length ∧ b.length = 1 + 4 * field b 0 1)

/-- The oldest reply has been sent. A HOLD reply leaves the reply list and changes nothing in the FIFO. A served reply takes the head with it; the request behind it, if there is one, becomes the head and is examined, as Obligations.ArrivingFramesMeetTheFifo says of a first head (R165, R167; the stage checked of a head that passes: log entry 14). -/
def Obligations.SentRepliesLeave : Prop :=
  ∀ (p : PortId) (s : State) (f : ReplyFrame) (rest : List ReplyFrame), (s.port p).replies = f :: rest →
    ∃ t, exec (.replySent p) s = .next t ∧ s.OtherPorts p t ∧ s.SameBut [.pct] t
      ∧ (f.hold = true → t.port p = { s.port p with replies := rest })
      ∧ (f.hold = false → ∀ h, (s.port p).fifo = [h] →
        t.port p = { s.port p with replies := rest, fifo := [], stage := .noHead })
      ∧ (f.hold = false → ∀ h h' l, (s.port p).fifo = h :: h' :: l →
        Port.HeadTaken s.now { s.port p with replies := rest, fifo := h' :: l } h' (t.port p))

/-- The free engine grants the waiting port that comes next after the grant pointer, which then names it; it grants nothing while it has a request in service or no port waits: the command then changes nothing, which is the model's choice (log entry 3). A waiting port that another is granted before comes nearer: fewer ports then stand before it in the rotation (R57, R58, R166). R58 has the engine serve the granted head: that the grant is a step of its own, which puts the head in service and moves the pointer and leaves the serving to the request's own row, is the model's inference (log entry 4). -/
def Obligations.EngineGrantsInRotation : Prop :=
  (∀ (p : PortId) (pre post : List PortId) (s : State), s.engineFree = true →
    portsAfter s.rse.pointer = pre ++ p :: post → (s.port p).stage = .waiting →
    (∀ p' ∈ pre, (s.port p').stage ≠ .waiting) →
    ∃ t, exec .engineGrant s = .next t ∧ t.port p = { s.port p with stage := .inService }
      ∧ t.rse.pointer = p ∧ t.rse.dests = s.rse.dests ∧ t.rse.sets = s.rse.sets
      ∧ s.OtherPorts p t ∧ s.SameBut [.pct, .rse] t
      ∧ ∀ p', p' ≠ p → (s.port p').stage = .waiting →
        (portsAfter t.rse.pointer).idxOf p' < (portsAfter s.rse.pointer).idxOf p')
  ∧ (∀ s : State, s.engineFree = false → exec .engineGrant s = .next s)
  ∧ ∀ s : State, (∀ p, (s.port p).stage ≠ .waiting) → exec .engineGrant s = .next s

/-! ### Notices and port status -/

/-- A notice that reaches a port. On a DOWN link, on an OFF port or under a mask that does not admit its category it leaves the port as it was. Otherwise it joins the tail of a queue of fewer than 32 and the attention line is driven; at 32 it is dropped and NOTICE_LOST is latched (R178, R179, R180). This holds of all nine kinds, each with its category, whether the notice is raised to every port or to one, and each carries the low 32 bits of the running time (R154, R173, R177). The end of a restriction shows it: every port is reached, by one notice (R77). -/
def Obligations.NoticesReachTheirPorts : Prop :=
  (∀ (b : NoticeBody) (s : State) (bit : Nat),
    bit = (match b with
      | .reservationExpired _ _ | .displaced _ _ => 0
      | .levelChange _ _ _ | .groupDrained _ => 1
      | .destOpened _ => 2
      | .agreementState _ _ => 3
      | .periodClosed _ _ | .closeDeferred _ => 4
      | .recordsAdopted _ _ => 5) →
    s.SameBut [.pct] (s.raiseAll b)
    ∧ (∀ p, (s.port p).Offered b bit (s.tmb.running % 2 ^ 32) ((s.raiseAll b).port p))
    ∧ ∀ p, (s.port p).Offered b bit (s.tmb.running % 2 ^ 32) ((s.raiseTo p b).port p)
      ∧ s.OtherPorts p (s.raiseTo p b) ∧ s.SameBut [.pct] (s.raiseTo p b))
  ∧ ∀ (d : Nat) (s : State) (x : Restriction), (s.dest d).restriction = some x → x.endTime ≤ s.now →
    ∃ t, exec (.restrictionEnd d) s = .next t
      ∧ ∀ p, (s.port p).Offered (.destOpened d) 2 (s.tmb.running % 2 ^ 32) (t.port p)

/-- TAKE_NOTICES, SET_NOTICE_MASK and PORT_STATUS in service. The first removes up to eight of the requesting port's notices, oldest first, and releases the attention line with the last. The second sets the requesting port's mask, or refuses a byte with bit 6 or 7 set. The third reports a port and clears the three flags only where a port reads itself (R180 to R183). That the role, the line indication and the two counts that PORT_STATUS reports are one byte each, and how it codes the attention line, are the model's choice (log entry 16). -/
def Obligations.NoticeRequestsAct : Prop :=
  (∀ (r : Requester) (s : State), s.inService r (.takeNotices r) = true →
    ∃ t u, exec (.takeNotices r) s = .next t ∧ s.SameBut [.pct] t
      ∧ u.port r.port = { s.port r.port with
          notices := (s.port r.port).notices.drop 8
          attention := decide ((s.port r.port).link = .up) && decide (8 < (s.port r.port).notices.length) }
      ∧ s.OtherPorts r.port u
      ∧ t.pct = (u.deliver r (.takeNotices r)
          ⟨.done, listBytes noticeBytes ((s.port r.port).notices.take 8)⟩).pct)
  ∧ (∀ (r : Requester) (mask : Byte) (s : State), s.inService r (.setNoticeMask r mask) = true →
    (mask.toNat < 64 → ∃ t u, exec (.setNoticeMask r mask) s = .next t ∧ s.SameBut [.pct] t
      ∧ u.port r.port = { s.port r.port with mask := mask.setWidth 6 } ∧ s.OtherPorts r.port u
      ∧ t.pct = (u.deliver r (.setNoticeMask r mask) ⟨.done, [mask]⟩).pct)
    ∧ (64 ≤ mask.toNat →
      exec (.setNoticeMask r mask) s = .next (s.deliver r (.setNoticeMask r mask) ⟨.badValue, []⟩)))
  ∧ ∀ (r : Requester) (n : Nat) (s : State), s.inService r (.portStatus r n) = true →
    (3 < n → exec (.portStatus r n) s = .next (s.deliver r (.portStatus r n) ⟨.badValue, []⟩))
    ∧ ∀ p, portNumber p = n →
      (p ≠ r.port → exec (.portStatus r n) s
        = .next (s.deliver r (.portStatus r n) ⟨.done, statusBytes p (s.port p)⟩))
      ∧ (p = r.port → ∃ t u, exec (.portStatus r n) s = .next t ∧ s.SameBut [.pct] t
        ∧ u.port p = { s.port p with badFrame := false, linkLost := false, noticeLost := false }
        ∧ s.OtherPorts p u
        ∧ t.pct = (u.deliver r (.portStatus r n) ⟨.done, statusBytes p (s.port p)⟩).pct)

/-- Every request that reads and nothing else is answered DONE, ADJUSTED or a refusal, and leaves every block as it was: READ_GROUP, READ_DEST, the profile and period forms of READ_CONGESTION, READ_AGREEMENT, READ_TARIFF, READ_BANK, READ_TIME, QUERY_CALL and IDENTIFY. Which refusal, and when: an unknown form, copy or bank and a number out of its range BAD_VALUE; the circuit and free-list forms of READ_GROUP on an UNDEFINED group WRONG_STATE; a start circuit outside the group's range BAD_VALUE; a handle beyond the table BAD_VALUE, of a free record or another generation STALE_HANDLE (R23, R27, R39, R55, R96, R97, R109, R122, R143, R153, R184). The row that refuses an unknown form is the model's choice (log entry 6). -/
def Obligations.ReadsChangeNothing : Prop :=
  (∀ (c : Instr) (r : Requester) (s : State), s.inService r c = true →
    (∃ g n, c = .readGroupSummary r g n) ∨ (∃ g a n, c = .readGroupCircuit r g a n)
      ∨ (∃ g a n, c = .readGroupFreeList r g a n) ∨ (∃ d, c = .readDestDestination r d)
      ∨ (∃ f n, c = .readDestRouteSet r f n) ∨ (∃ n, c = .readCongestionProfile r n)
      ∨ (∃ f, c = .readCongestionPeriod r f) ∨ (∃ a n, c = .readAgreement r a n)
      ∨ (∃ k a n, c = .readTariffClass r k a n) ∨ (∃ f k, c = .readTariffBand r f k)
      ∨ (∃ b a n, c = .readBank r b a n) ∨ c = .readTime r ∨ (∃ i g, c = .queryCall r i g)
      ∨ c = .identify r →
    ∃ a, exec c s = .next (s.deliver r c a)
      ∧ (a.result = .done ∨ a.result = .adjusted
        ∨ (a.body = [] ∧ (a.result = .badValue ∨ a.result = .wrongState ∨ a.result = .staleHandle))))
  ∧ ∀ (c : Instr) (r : Requester) (s : State) (e : Result), s.inService r c = true →
    ((∃ g f, c = .readGroupSummary r g f ∧ (255 < g ∨ f ≠ 0) ∧ e = .badValue)
      ∨ (∃ g a n, c = .readGroupCircuit r g a n
        ∧ ((255 < g ∧ e = .badValue) ∨ (g ≤ 255 ∧ s.group g = none ∧ e = .wrongState)
          ∨ (g ≤ 255 ∧ e = .badValue ∧ ∃ x, s.group g = some x ∧ (a < x.first ∨ x.first + x.count ≤ a))))
      ∨ (∃ g a n, c = .readGroupFreeList r g a n
        ∧ ((255 < g ∧ e = .badValue) ∨ (g ≤ 255 ∧ s.group g = none ∧ e = .wrongState)))
      ∨ (∃ d, c = .readDestDestination r d ∧ 4095 < d ∧ e = .badValue)
      ∨ (∃ f n, c = .readDestRouteSet r f n ∧ (f ≠ 1 ∨ 511 < n) ∧ e = .badValue)
      ∨ (∃ n, c = .readCongestionProfile r n ∧ 7 < n ∧ e = .badValue)
      ∨ (∃ f, c = .readCongestionPeriod r f ∧ f ≠ 2 ∧ e = .badValue)
      ∨ (∃ a n, c = .readAgreement r a n ∧ (a = 0 ∨ 63 < a ∨ n = 0 ∨ 8 < n) ∧ e = .badValue)
      ∨ (∃ k a n, c = .readTariffClass r k a n ∧ (1 < k ∨ a = 0 ∨ 63 < a ∨ 3 < n) ∧ e = .badValue)
      ∨ (∃ f k, c = .readTariffBand r f k ∧ (f ≠ 1 ∨ 1 < k) ∧ e = .badValue)
      ∨ (∃ b a n, c = .readBank r b a n ∧ (1 < b ∨ 63 < a) ∧ e = .badValue)
      ∨ ∃ i g, c = .queryCall r i g ∧ ((16384 ≤ i ∧ e = .badValue)
        ∨ (i < 16384 ∧ (s.call i = none ∨ s.gen i ≠ g) ∧ e = .staleHandle))) →
    exec c s = .next (s.deliver r c ⟨e, []⟩)

/-- READ_TIME is answered DONE with the running time, the time of day and the band now in force, and IDENTIFY with the vendor code, part number and revision and the requesting port's number and role; both change no state, and both are permitted to every role but OFF (R153, R184). -/
def Obligations.TimeAndIdentityAreReported : Prop :=
  (∀ (r : Requester) (s : State), s.inService r (.readTime r) = true →
    exec (.readTime r) s = .next (s.deliver r (.readTime r) ⟨.done,
      beBytes 6 s.tmb.running ++ beBytes 2 s.tmb.day ++ beBytes 3 s.tmb.second ++ beBytes 2 s.tmb.milli
        ++ beBytes 1 (bandAt s.hru.bands s.tmb.second)⟩))
  ∧ (∀ (r : Requester) (s : State), s.inService r (.identify r) = true →
    exec (.identify r) s = .next (s.deliver r (.identify r) ⟨.done,
      [0x4B, 0x56, 0x0E, 0x38, 0x01] ++ beBytes 1 (portNumber r.port)
        ++ beBytes 1 (roleCode (s.port r.port).role)⟩))
  ∧ ∀ role, (permits .readTime role = true ↔ role ≠ .off) ∧ (permits .identify role = true ↔ role ≠ .off)

/-- What the reads report of groups, live records and the other tables, as the tables stand: a summary, of an UNDEFINED group its number and state alone (log entry 8; the widths of a count, a direction and a glare rule: log entry 20), and a run of circuits or free-list places (R23), a live record (R39), a destination and a route set (R55, R81), a profile and the period (R97), agreements (R109), a tariff class and a band table (R122), a bank (R143). That a list is led by a byte with its count, and the order of a live record's fields, are the model's inference (log entries 7 and 10); the order of several rotation orders and the width of a group of a set are its choice (log entry 15), and a kept time beyond 2^48−1 is coded by a free value (log entry 17). -/
def Obligations.ReadsReportWhatStands : Prop :=
  (∀ (r : Requester) (g : Nat) (s : State) (x : Group), s.inService r (.readGroupSummary r g 0) = true →
    g ≤ 255 → s.group g = some x →
    ∃ maint marks, exec (.readGroupSummary r g 0) s = .next (s.deliver r (.readGroupSummary r g 0) ⟨.done,
      beBytes 1 g ++ beBytes 2 x.first ++ beBytes 2 x.count ++ beBytes 1 (directionCode x.direction)
        ++ beBytes 1 x.carrier ++ beBytes 1 (glareCode x.glare) ++ beBytes 2 x.reserve ++ beBytes 1 x.profile
        ++ beBytes 1 (groupStateCode (some x.state)) ++ beBytes 2 x.busy ++ beBytes 2 x.freeList.length
        ++ beBytes 2 maint ++ beBytes 2 marks ++ optBytes 2 x.freeList.head?⟩)
      ∧ (s.TablesInv →
        maint = (circuitRange x.first x.count).countP (fun c => decide ((s.circuit c).state = .maint))
        ∧ marks = (circuitRange x.first x.count).countP fun c => (s.circuit c).mark))
  ∧ (∀ (r : Requester) (g : Nat) (s : State), s.inService r (.readGroupSummary r g 0) = true → g ≤ 255 →
    s.group g = none →
    exec (.readGroupSummary r g 0) s = .next (s.deliver r (.readGroupSummary r g 0) ⟨.done, beBytes 1 g ++ [0]⟩))
  ∧ (∀ (r : Requester) (g start n : Nat) (s : State) (x : Group),
    s.inService r (.readGroupCircuit r g start n) = true → g ≤ 255 → s.group g = some x →
    x.first ≤ start → start < x.first + x.count → ∀ m, m = (if n = 0 then 1 else if 32 < n then 32 else n) →
    exec (.readGroupCircuit r g start n) s = .next (s.deliver r (.readGroupCircuit r g start n)
      ⟨if m = n then .done else .adjusted,
        listBytes (circuitBytes s) (List.range' start (min m (x.first + x.count - start)))⟩))
  ∧ (∀ (r : Requester) (g start n : Nat) (s : State) (x : Group),
    s.inService r (.readGroupFreeList r g start n) = true → g ≤ 255 → s.group g = some x →
    ∀ m, m = (if n = 0 then 1 else if 32 < n then 32 else n) →
    exec (.readGroupFreeList r g start n) s = .next (s.deliver r (.readGroupFreeList r g start n)
      ⟨if m = n then .done else .adjusted, listBytes (beBytes 2) ((x.freeList.drop start).take m)⟩))
  ∧ (∀ (r : Requester) (i g : Nat) (s : State) (x : CallRecord), s.inService r (.queryCall r i g) = true →
    i < 16384 → s.call i = some x → s.gen i = g →
    exec (.queryCall r i g) s = .next (s.deliver r (.queryCall r i g) ⟨.done, callBytes i g x⟩))
  ∧ (∀ (r : Requester) (d : Nat) (s : State), s.inService r (.readDestDestination r d) = true → d ≤ 4095 →
    exec (.readDestDestination r d) s = .next (s.deliver r (.readDestDestination r d)
      ⟨.done, destBytes (s.dest d)⟩))
  ∧ (∀ (r : Requester) (n : Nat) (s : State), s.inService r (.readDestRouteSet r 1 n) = true → n ≤ 511 →
    exec (.readDestRouteSet r 1 n) s = .next (s.deliver r (.readDestRouteSet r 1 n)
      ⟨.done, listBytes (beBytes 1) (s.routeSet n)⟩))
  ∧ (∀ (r : Requester) (n : Nat) (s : State), s.inService r (.readCongestionProfile r n) = true → n ≤ 7 →
    exec (.readCongestionProfile r n) s = .next (s.deliver r (.readCongestionProfile r n)
      ⟨.done, profileBytes (s.profile n) ++ profileBytes (s.stagedProfile n)⟩))
  ∧ (∀ (r : Requester) (s : State), s.inService r (.readCongestionPeriod r 2) = true →
    exec (.readCongestionPeriod r 2) s = .next (s.deliver r (.readCongestionPeriod r 2)
      ⟨.done, beBytes 1 s.cmn.inForcePeriod ++ beBytes 1 s.cmn.stagedPeriod ++ timeBytes s.cmn.nextPeriodEnd⟩))
  ∧ (∀ (r : Requester) (first n : Nat) (s : State), s.inService r (.readAgreement r first n) = true →
    1 ≤ first → first ≤ 63 → 1 ≤ n → n ≤ 8 →
    exec (.readAgreement r first n) s = .next (s.deliver r (.readAgreement r first n) ⟨.done,
      listBytes (fun c => beBytes 1 c ++ agreementBytes (s.agreement c))
        (List.range' first (min n (64 - first)))⟩))
  ∧ (∀ (r : Requester) (copy c n : Nat) (s : State), s.inService r (.readTariffClass r copy c n) = true →
    1 ≤ c → c ≤ 63 → n ≤ 3 → copy ≤ 1 →
    exec (.readTariffClass r copy c n) s = .next (s.deliver r (.readTariffClass r copy c n)
      ⟨.done, tariffBytes (if copy = 0 then s.tariff c n else s.pendingTariff c n)⟩))
  ∧ (∀ (r : Requester) (copy : Nat) (s : State), s.inService r (.readTariffBand r 1 copy) = true → copy ≤ 1 →
    exec (.readTariffBand r 1 copy) s = .next (s.deliver r (.readTariffBand r 1 copy)
      ⟨.done, bandBytes (if copy = 0 then s.hru.bands else s.hru.pendingBands)⟩))
  ∧ ∀ (r : Requester) (k : BankId) (first n : Nat) (s : State),
    s.inService r (.readBank r (bankCode k) first n) = true → first ≤ 63 →
    ∀ m records, m = min (if n = 0 then 1 else if 8 < n then 8 else n) (64 - first) →
    records = (List.range' first m).map (s.bank k).record →
    exec (.readBank r (bankCode k) first n) s = .next (s.deliver r (.readBank r (bankCode k) first n)
      ⟨if n = 0 ∨ 8 < n then .adjusted else .done,
        bankStateBytes (s.bank k) ++ beBytes 1 (bankCode s.sts.activeBank)
        ++ beBytes 1 (flagCode s.sts.closeDeferred) ++ optBytes 3 s.sts.autoClose ++ beBytes 1 first
        ++ beBytes 1 m ++ [saturatedByte records] ++ records.flatMap recordBytes⟩)

/-! ### Trunk groups and circuits -/

/-- A valid define form on a group that is UNDEFINED, or BLOCKED with nothing busy, whose range meets no other group's: the group takes the requested fields with the reserve clamped to the count, its free list holds the range's circuits outside the maintenance set ascending, circuits of the old range that are not in the new one become unassigned, and its congestion record is zero (R9). -/
def Obligations.DefineGroupRebuildsTheRange : Prop :=
  ∀ (r : Requester) (g : Nat) (a : GroupArg) (d : Direction) (l : GlareRule) (s : State),
    s.inService r (.defineGroupDefine r g a) = true → s.TablesInv → s.PoolInv → g ≤ 255 →
    1 ≤ a.count → a.count ≤ 1024 → a.first + a.count ≤ 16384 → a.carrier ≤ 63 → a.profile ≤ 7 →
    a.direction = directionCode d → a.glare = glareCode l →
    (∀ c ∈ a.maint, a.first ≤ c ∧ c < a.first + a.count) →
    (∀ x, s.group g = some x → x.state = .blocked ∧ x.busy = 0) →
    (∀ g' x c, g' ≠ g → s.group g' = some x → groupHolds c x = true → c < a.first ∨ a.first + a.count ≤ c) →
    ∃ t, exec (.defineGroupDefine r g a) s = .next t
      ∧ t.group g = some {
          first := a.first, count := a.count, direction := d, carrier := a.carrier, glare := l, reserve := min a.reserve a.count, profile := a.profile, state := .inService,
          freeList := (List.range' a.first a.count).filter (fun c => decide (c ∉ a.maint)), busy := 0 }
      ∧ (∀ g', g' ≠ g → t.group g' = s.group g')
      ∧ (∀ c, t.circuit c =
          if a.first ≤ c ∧ c < a.first + a.count then (if c ∈ a.maint then ⟨.maint, false⟩ else Circuit.idle)
          else if (s.group g).any (groupHolds c) = true then Circuit.idle
          else s.circuit c)
      ∧ (∀ g', t.congestion g' = if g' = g then CongestionRecord.zero else s.congestion g')
      ∧ t.cmn = { s.cmn with records := t.cmn.records }
      ∧ s.SameBut [.pct, .cpl, .cmn] t
      ∧ t.pct = (s.deliver r (.defineGroupDefine r g a)
          ⟨if a.count < a.reserve then .adjusted else .done, []⟩).pct

/-- The checks of a define form in their order: a structural fault gives BAD_VALUE, then a group that is not UNDEFINED and not BLOCKED with nothing busy GROUP_IN_USE, then a circuit of another group OVERLAP; each leaves everything but the reply as it was. A remove form on a group that is UNDEFINED, or BLOCKED with nothing busy: the group is UNDEFINED, the circuits of its range are unassigned and its congestion record is zero. A form other than define and remove gives BAD_VALUE, and any other group GROUP_IN_USE (R8, R10). That an unknown form is a request of the remove row is the model's choice (log entry 6). -/
def Obligations.DefineGroupChecksAndRemoves : Prop :=
  (∀ (r : Requester) (g : Nat) (a : GroupArg) (s : State),
    s.inService r (.defineGroupDefine r g a) = true → s.TablesInv → s.PoolInv →
    let valid : Prop := g ≤ 255 ∧ 1 ≤ a.count ∧ a.count ≤ 1024 ∧ a.first + a.count ≤ 16384 ∧ a.carrier ≤ 63
      ∧ a.profile ≤ 7 ∧ a.direction ≤ 2 ∧ a.glare ≤ 1 ∧ ∀ c ∈ a.maint, a.first ≤ c ∧ c < a.first + a.count
    let free : Prop := ∀ x, s.group g = some x → x.state = .blocked ∧ x.busy = 0
    let apart : Prop := ∀ g' x c, g' ≠ g → s.group g' = some x → groupHolds c x = true →
      c < a.first ∨ a.first + a.count ≤ c
    (¬ valid → exec (.defineGroupDefine r g a) s
      = .next (s.deliver r (.defineGroupDefine r g a) ⟨.badValue, []⟩))
    ∧ (valid → ¬ free → exec (.defineGroupDefine r g a) s
      = .next (s.deliver r (.defineGroupDefine r g a) ⟨.groupInUse, []⟩))
    ∧ (valid → free → ¬ apart → exec (.defineGroupDefine r g a) s
      = .next (s.deliver r (.defineGroupDefine r g a) ⟨.overlap, []⟩)))
  ∧ ∀ (r : Requester) (g form : Nat) (s : State), s.inService r (.defineGroupRemove r g form) = true →
    (form ≠ 1 → exec (.defineGroupRemove r g form) s
      = .next (s.deliver r (.defineGroupRemove r g form) ⟨.badValue, []⟩))
    ∧ (g ≤ 255 → form = 1 → (∀ x, s.group g = some x → x.state = .blocked ∧ x.busy = 0) →
      ∃ t, exec (.defineGroupRemove r g form) s = .next t
        ∧ (∀ g', t.group g' = if g' = g then none else s.group g')
        ∧ (∀ c, t.circuit c =
            if (s.group g).any (groupHolds c) = true then Circuit.idle else s.circuit c)
        ∧ (∀ g', t.congestion g' = if g' = g then CongestionRecord.zero else s.congestion g')
        ∧ t.cmn = { s.cmn with records := t.cmn.records }
        ∧ s.SameBut [.pct, .cpl, .cmn] t
        ∧ t.pct = (s.deliver r (.defineGroupRemove r g form) ⟨.done, []⟩).pct)
    ∧ (g ≤ 255 → form = 1 → (∃ x, s.group g = some x ∧ (x.state ≠ .blocked ∨ x.busy ≠ 0)) →
      exec (.defineGroupRemove r g form) s
        = .next (s.deliver r (.defineGroupRemove r g form) ⟨.groupInUse, []⟩))

/-- BLOCK, UNBLOCK and SET_RESERVE on a defined group write its state or its reserve and nothing else of it: BLOCK makes an IN_SERVICE group BLOCKED when nothing is busy and DRAINING otherwise and keeps the other states, UNBLOCK makes every state IN_SERVICE, and a reserve above the count is clamped to it. An unknown form gives BAD_VALUE and an UNDEFINED group WRONG_STATE, with nothing changed (R11, R12, R14). That an unknown form is a request of the unblock row is the model's choice (log entry 6). -/
def Obligations.GroupSettingsAreWritten : Prop :=
  (∀ (r : Requester) (g : Nat) (s : State) (x : Group), g ≤ 255 → s.group g = some x →
    (s.inService r (.setGroupStateBlock r g) = true →
      ∃ t, exec (.setGroupStateBlock r g) s = .next t
        ∧ t.group g = some { x with state :=
            if x.state = .inService then (if x.busy = 0 then .blocked else .draining) else x.state }
        ∧ (∀ g', g' ≠ g → t.group g' = s.group g') ∧ t.cpl.circuits = s.cpl.circuits
        ∧ s.SameBut [.pct, .cpl] t ∧ t.pct = (s.deliver r (.setGroupStateBlock r g) ⟨.done, []⟩).pct)
    ∧ (s.inService r (.setGroupStateUnblock r g 1) = true →
      ∃ t, exec (.setGroupStateUnblock r g 1) s = .next t
        ∧ t.group g = some { x with state := .inService }
        ∧ (∀ g', g' ≠ g → t.group g' = s.group g') ∧ t.cpl.circuits = s.cpl.circuits
        ∧ s.SameBut [.pct, .cpl] t ∧ t.pct = (s.deliver r (.setGroupStateUnblock r g 1) ⟨.done, []⟩).pct)
    ∧ ∀ n, s.inService r (.setReserve r g n) = true →
      ∃ t, exec (.setReserve r g n) s = .next t
        ∧ t.group g = some { x with reserve := if x.count < n then x.count else n }
        ∧ (∀ g', g' ≠ g → t.group g' = s.group g') ∧ t.cpl.circuits = s.cpl.circuits
        ∧ s.SameBut [.pct, .cpl] t
        ∧ t.pct = (s.deliver r (.setReserve r g n) ⟨if x.count < n then .adjusted else .done, []⟩).pct)
  ∧ ∀ (r : Requester) (g : Nat) (s : State) (c : Instr), s.inService r c = true →
    (∀ f, f ≠ 1 → c = .setGroupStateUnblock r g f → exec c s = .next (s.deliver r c ⟨.badValue, []⟩))
    ∧ (g ≤ 255 → s.group g = none →
      (c = .setGroupStateBlock r g ∨ c = .setGroupStateUnblock r g 1 ∨ ∃ n, c = .setReserve r g n) →
      exec c s = .next (s.deliver r c ⟨.wrongState, []⟩))

/-- CIRCUIT_MAINT on a circuit of group `g`. Out: an IDLE circuit leaves its place in the free list and becomes MAINT, a held one is marked, a MAINT one is left. Return: a MAINT circuit becomes IDLE at the tail of the free list, a held one loses its mark, an IDLE one is left. Nothing else changes, and the reply is DONE. A number above 16383 or an unknown form gives BAD_VALUE and an unassigned circuit WRONG_STATE, with nothing changed (R15, R16). That an unknown form is a request of the return row is the model's choice (log entry 6). -/
def Obligations.CircuitMaintenanceMovesOneCircuit : Prop :=
  (∀ (r : Requester) (c g : Nat) (s : State) (x : Group), s.TablesInv → s.PoolInv → c ≤ 16383 →
    s.group g = some x → groupHolds c x = true →
    (s.inService r (.circuitMaintOut r c) = true →
      ∃ t, exec (.circuitMaintOut r c) s = .next t
        ∧ t.group g = some { x with
            freeList := if (s.circuit c).state = .idle then x.freeList.erase c else x.freeList }
        ∧ t.circuit c = (if (s.circuit c).held = true then { s.circuit c with mark := true }
            else ⟨.maint, (s.circuit c).mark⟩)
        ∧ (∀ g', g' ≠ g → t.group g' = s.group g') ∧ (∀ c', c' ≠ c → t.circuit c' = s.circuit c')
        ∧ s.SameBut [.pct, .cpl] t ∧ t.pct = (s.deliver r (.circuitMaintOut r c) ⟨.done, []⟩).pct)
    ∧ (s.inService r (.circuitMaintReturn r c 1) = true →
      ∃ t, exec (.circuitMaintReturn r c 1) s = .next t
        ∧ t.group g = some { x with
            freeList := if (s.circuit c).state = .maint then x.freeList ++ [c] else x.freeList }
        ∧ t.circuit c = (if (s.circuit c).held = true then { s.circuit c with mark := false }
            else Circuit.idle)
        ∧ (∀ g', g' ≠ g → t.group g' = s.group g') ∧ (∀ c', c' ≠ c → t.circuit c' = s.circuit c')
        ∧ s.SameBut [.pct, .cpl] t ∧ t.pct = (s.deliver r (.circuitMaintReturn r c 1) ⟨.done, []⟩).pct))
  ∧ ∀ (r : Requester) (c : Nat) (s : State), s.TablesInv →
    (s.inService r (.circuitMaintOut r c) = true →
      (16383 < c → exec (.circuitMaintOut r c) s = .next (s.deliver r (.circuitMaintOut r c) ⟨.badValue, []⟩))
      ∧ (c ≤ 16383 → (∀ g x, s.group g = some x → groupHolds c x = false) →
        exec (.circuitMaintOut r c) s = .next (s.deliver r (.circuitMaintOut r c) ⟨.wrongState, []⟩)))
    ∧ ∀ form, s.inService r (.circuitMaintReturn r c form) = true →
      (16383 < c ∨ form ≠ 1 → exec (.circuitMaintReturn r c form) s
        = .next (s.deliver r (.circuitMaintReturn r c form) ⟨.badValue, []⟩))
      ∧ (c ≤ 16383 → form = 1 → (∀ g x, s.group g = some x → groupHolds c x = false) →
        exec (.circuitMaintReturn r c form) s
          = .next (s.deliver r (.circuitMaintReturn r c form) ⟨.wrongState, []⟩))

/-! ### Call records -/

/-- The first three checks of a handle, in their order: an index above 16383 gives BAD_VALUE, a free record or another generation STALE_HANDLE, another port's record NOT_OWNER, each with nothing changed. QUERY_CALL skips the third: any port's QUERY_CALL of a live record is answered DONE (R27, R39; the order of its fields: log entry 10). -/
def Obligations.HandlesAreCheckedInOrder : Prop :=
  ∀ (r : Requester) (i g : Nat) (s : State) (c : Instr), s.inService r c = true →
    c = .confirm r i g ∨ c = .answer r i g ∨ c = .release r i g ∨ c = .reroute r i g ∨ c = .queryCall r i g →
    (16384 ≤ i → exec c s = .next (s.deliver r c ⟨.badValue, []⟩))
    ∧ (i < 16384 → s.call i = none ∨ s.gen i ≠ g → exec c s = .next (s.deliver r c ⟨.staleHandle, []⟩))
    ∧ ∀ x, i < 16384 → s.call i = some x → s.gen i = g →
      (c ≠ .queryCall r i g → x.owner ≠ r.port → exec c s = .next (s.deliver r c ⟨.notOwner, []⟩))
      ∧ (c = .queryCall r i g → exec c s = .next (s.deliver r c ⟨.done, callBytes i g x⟩))

/-- CONFIRM by the owner: a RESERVED record becomes SEIZED without a deadline and its outbound circuit BUSY with its mark kept; a DISPLACED record is answered DISPLACED and a SEIZED or ANSWERED one WRONG_STATE, unchanged (R33, R19). -/
def Obligations.ConfirmSeizesAReservation : Prop :=
  ∀ (r : Requester) (i g : Nat) (s : State) (x : CallRecord), s.inService r (.confirm r i g) = true →
    i < 16384 → s.call i = some x → s.gen i = g → x.owner = r.port →
    (x.state = .reserved →
      ∃ t, exec (.confirm r i g) s = .next t
        ∧ t.call i = some { x with state := .seized, deadline := none }
        ∧ (∀ i', i' ≠ i → t.call i' = s.call i')
        ∧ t.crt = { s.crt with calls := t.crt.calls }
        ∧ t.cpl.groups = s.cpl.groups
        ∧ (∀ c, t.circuit c = if x.outbound.map (fun o => o.circuit) = some c
            then { s.circuit c with state := .busy } else s.circuit c)
        ∧ s.SameBut [.pct, .cpl, .crt] t ∧ t.pct = (s.deliver r (.confirm r i g) ⟨.done, []⟩).pct)
    ∧ (x.state = .displaced → exec (.confirm r i g) s = .next (s.deliver r (.confirm r i g) ⟨.displaced, []⟩))
    ∧ (x.state = .seized ∨ x.state = .answered →
      exec (.confirm r i g) s = .next (s.deliver r (.confirm r i g) ⟨.wrongState, []⟩))

/-- ANSWER by the owner: a SEIZED record becomes ANSWERED with the running time now and the band in force at the present second of day; any other record is answered WRONG_STATE, unchanged. Over a table of strictly ascending switch points the band in force at a second is that of the last point at or before it, else of the last point of the table, else 0 (R34, R120). -/
def Obligations.AnswerLocksTimeAndBand : Prop :=
  (∀ (r : Requester) (i g : Nat) (s : State) (x : CallRecord), s.inService r (.answer r i g) = true →
    i < 16384 → s.call i = some x → s.gen i = g → x.owner = r.port →
    (x.state = .seized →
      ∃ t, exec (.answer r i g) s = .next t
        ∧ t.call i = some { x with
            state := .answered, answer := some ⟨s.tmb.running, bandAt s.hru.bands s.tmb.second⟩ }
        ∧ (∀ i', i' ≠ i → t.call i' = s.call i')
        ∧ t.crt = { s.crt with calls := t.crt.calls }
        ∧ s.SameBut [.pct, .crt] t ∧ t.pct = (s.deliver r (.answer r i g) ⟨.done, []⟩).pct)
    ∧ (x.state ≠ .seized → exec (.answer r i g) s = .next (s.deliver r (.answer r i g) ⟨.wrongState, []⟩)))
  ∧ ∀ (l : List SwitchPoint) (n : Nat), (l.Pairwise fun p q => p.second < q.second) →
    (∀ p ∈ l, p.second ≤ n → (∀ q ∈ l, q.second ≤ n → q.second ≤ p.second) → bandAt l n = p.band)
    ∧ (∀ p, l.getLast? = some p → (∀ q ∈ l, n < q.second) → bandAt l n = p.band)
    ∧ (l = [] → bandAt l n = 0)

/-- RELEASE by the owner: each leg whose slot a RESERVED, SEIZED or ANSWERED record holds is rated, by the in-force class of its group's carrier and that slot, with the level of its side, and added to the ACTIVE bank, payable first; the circuits are freed, outbound first; the record is freed with its generation advanced and its index at the queue's tail. GROUP_DRAINED is raised for each group whose drain the freeing completes, the outbound one first (R13, R20). The reply reports the legs. A DISPLACED record has no leg rated, so no bank changes and both legs are reported absent (R35, R36, R37, R123, R130). -/
def Obligations.ReleaseRatesAndFrees : Prop :=
  ∀ (r : Requester) (i g : Nat) (s : State) (x : CallRecord) (pay recv : Option RatedLeg),
    s.inService r (.release r i g) = true → i < 16384 → s.call i = some x → s.gen i = g →
    x.owner = r.port → x.circuits.Nodup → (x.state = .displaced → x.outbound = none ∧ pay = none ∧ recv = none) →
    (∀ n o, x.state ≠ .displaced → x.outbound = some o → o.payable = some n → pay = some (rateLeg
      (s.tariff (s.carrierOf o.group) n) .payable (s.carrierOf o.group) n o.level x.cls
      (if x.state = .answered then x.answer else none) s.tmb.running)) →
    ((∀ o, x.outbound = some o → o.payable = none) → pay = none) →
    (∀ n b, x.state ≠ .displaced → x.inbound = some b → b.receivable = some n → recv = some (rateLeg
      (s.tariff (s.carrierOf b.group) n) .receivable (s.carrierOf b.group) n b.level x.cls
      (if x.state = .answered then x.answer else none) s.tmb.running)) →
    ((∀ b, x.inbound = some b → b.receivable = none) → recv = none) →
    ∃ t, exec (.release r i g) s = .next t
      ∧ (∀ i', t.call i' = if i' = i then none else s.call i')
      ∧ (∀ i', t.gen i' = if i' = i then (s.gen i + 1) % 256 else s.gen i')
      ∧ queueList t.crt.queue = queueList s.crt.queue ++ [i] ∧ t.crt.guardSeconds = s.crt.guardSeconds
      ∧ (∀ g', t.group g' = (s.group g').map (x.freesIn s g'))
      ∧ (∀ c, t.circuit c = if c ∈ x.circuits then (if (s.circuit c).mark then ⟨.maint, false⟩ else Circuit.idle)
          else s.circuit c)
      ∧ t.sts = (accumulateLeg recv (accumulateLeg pay s)).sts
      ∧ s.SameBut [.pct, .cpl, .crt, .sts] t
      ∧ t.pct = ((s.raiseEach (x.drained s)).deliver r (.release r i g)
          ⟨.released, legBytes pay ++ legBytes recv⟩).pct

/-- GUARD_EXPIRY of a live record whose deadline has been reached: its circuits are freed, outbound first, the record is freed with its generation advanced and its index at the queue's tail, GROUP_DRAINED is raised for each group whose drain this completes, the outbound one first, and then a notice with the handle it had goes to its owner's port. The rules are R40, R20 and R13. Before the deadline, or on a free record, the command changes nothing, which is the model's choice (log entry 3). -/
def Obligations.GuardExpiryFreesTheCall : Prop :=
  (∀ (i d : Nat) (s : State) (x : CallRecord), s.call i = some x → x.deadline = some d → d ≤ s.tmb.running →
    x.circuits.Nodup →
    ∃ t, exec (.guardExpiry i) s = .next t
      ∧ (∀ i', t.call i' = if i' = i then none else s.call i')
      ∧ (∀ i', t.gen i' = if i' = i then (s.gen i + 1) % 256 else s.gen i')
      ∧ queueList t.crt.queue = queueList s.crt.queue ++ [i] ∧ t.crt.guardSeconds = s.crt.guardSeconds
      ∧ (∀ g', t.group g' = (s.group g').map (x.freesIn s g'))
      ∧ (∀ c, t.circuit c = if c ∈ x.circuits then (if (s.circuit c).mark then ⟨.maint, false⟩ else Circuit.idle)
          else s.circuit c)
      ∧ s.SameBut [.pct, .cpl, .crt] t
      ∧ t.pct = ((s.raiseEach (x.drained s)).raiseTo x.owner (.reservationExpired i (s.gen i))).pct)
  ∧ ∀ (i : Nat) (s : State), (∀ x d, s.call i = some x → x.deadline = some d → s.tmb.running < d) →
    exec (.guardExpiry i) s = .next s

/-- SET_GUARD sets the guard time, clamped to 1 to 60 with ADJUSTED, and no deadline. ADOPT_PORT between two different ports to one of role CALL or BOTH gives every live record of the one to the other, tells it how many they were, and changes nothing else of a record; in the other cases it is refused with BAD_VALUE (R42, R43). -/
def Obligations.GuardTimeAndAdoption : Prop :=
  (∀ (r : Requester) (n : Nat) (s : State), s.inService r (.setGuard r n) = true →
    ∃ t, exec (.setGuard r n) s = .next t
      ∧ t.crt = { s.crt with guardSeconds := if n = 0 then 1 else if 60 < n then 60 else n }
      ∧ s.SameBut [.pct, .crt] t
      ∧ t.pct = (s.deliver r (.setGuard r n) ⟨if n = 0 ∨ 60 < n then .adjusted else .done, []⟩).pct)
  ∧ ∀ (r : Requester) (a b : Nat) (s : State), s.inService r (.adoptPort r a b) = true →
    (∀ f u, portNumber f = a → portNumber u = b → f ≠ u →
      (s.port u).role = .call ∨ (s.port u).role = .both →
      ∃ t n, exec (.adoptPort r a b) s = .next t
        ∧ (s.TablesInv → n = ((List.range 16384).countP fun i => (s.call i).any fun x => decide (x.owner = f)))
        ∧ (∀ i, t.call i = (s.call i).map fun x => if x.owner = f then { x with owner := u } else x)
        ∧ t.crt = { s.crt with calls := t.crt.calls } ∧ s.SameBut [.pct, .crt] t
        ∧ t.pct = ((s.raiseTo u (.recordsAdopted f n)).deliver r (.adoptPort r a b) ⟨.done, beBytes 2 n⟩).pct)
    ∧ (3 < a ∨ 3 < b ∨ a = b ∨ (∀ u, portNumber u = b → (s.port u).role = .off ∨ (s.port u).role = .mgmt) →
      exec (.adoptPort r a b) s = .next (s.deliver r (.adoptPort r a b) ⟨.badValue, []⟩))

/-- EXCHANGE_RESTART frees every live record, its generation advanced and its index at the queue's tail in ascending order, without rating or notice, and restores the pool: held circuits become IDLE, or MAINT if marked, free lists are rebuilt ascending, nothing is busy, and DRAINING groups are BLOCKED (R45, R21). -/
def Obligations.RestartClearsEveryCall : Prop :=
  ∀ (r : Requester) (s : State), s.inService r (.exchangeRestart r) = true → s.TablesInv →
    ∃ t, exec (.exchangeRestart r) s = .next t
      ∧ (∀ i, t.call i = none)
      ∧ (∀ i, t.gen i = if (s.call i).isSome then (s.gen i + 1) % 256 else s.gen i)
      ∧ queueList t.crt.queue = queueList s.crt.queue
          ++ (List.range 16384).filter (fun i => (s.call i).isSome)
      ∧ t.crt.guardSeconds = s.crt.guardSeconds
      ∧ (∀ c, t.circuit c = if (s.circuit c).state = .maint ∨ ((s.circuit c).held = true ∧ (s.circuit c).mark = true)
          then ⟨.maint, false⟩ else Circuit.idle)
      ∧ (∀ g, t.group g = (s.group g).map fun x => { x with
          freeList := (List.range' x.first x.count).filter fun c => decide ((t.circuit c).state = .idle)
          busy := 0
          state := if x.state = .draining then .blocked else x.state })
      ∧ s.SameBut [.pct, .cpl, .crt] t ∧ t.pct = (s.deliver r (.exchangeRestart r) ⟨.done, []⟩).pct

/-! ### Routing tables -/

/-- WRITE_DEST with choices all in range replaces the route list and the rotate flags and puts the rotation order of each rotating rank in route list order, keeping the restriction; any fault gives BAD_VALUE with nothing changed. WRITE_ROUTE_SET likewise with 1 to 8 different groups, none of them a set reference (R50 to R52). -/
def Obligations.RouteTablesAreWritten : Prop :=
  (∀ (r : Requester) (d : Nat) (rotate : Byte) (choices : List ChoiceArg) (s : State),
    s.inService r (.writeDest r d rotate choices) = true →
    let valid : Prop := d ≤ 4095 ∧ choices.length ≤ 8 ∧ ∀ a ∈ choices, a.rank ≤ 7 ∧ a.mask ≤ 1
      ∧ ((a.kind = 0 ∧ a.target ≤ 255) ∨ (a.kind = 1 ∧ a.target ≤ 511))
    (valid → ∃ t routes, exec (.writeDest r d rotate choices) s = .next t
      ∧ routes = choices.map (fun a => (⟨if a.kind = 0 then .direct a.target else .chained a.target, a.rank,
          decide (a.mask = 1)⟩ : Choice))
      ∧ (t.dest d).routes = routes ∧ (t.dest d).rotate = rotate
      ∧ (∀ k, Table.get [] (t.dest d).orders k
          = if k < 8 ∧ rotate.getLsbD k = true then positionsOfRank routes k else [])
      ∧ (t.dest d).restriction = (s.dest d).restriction
      ∧ (∀ d', d' ≠ d → t.dest d' = s.dest d') ∧ t.rse = { s.rse with dests := t.rse.dests }
      ∧ s.SameBut [.pct, .rse] t ∧ t.pct = (s.deliver r (.writeDest r d rotate choices) ⟨.done, []⟩).pct)
    ∧ (¬ valid → exec (.writeDest r d rotate choices) s
      = .next (s.deliver r (.writeDest r d rotate choices) ⟨.badValue, []⟩)))
  ∧ ∀ (r : Requester) (n : Nat) (entries : List SetEntryArg) (s : State),
    s.inService r (.writeRouteSet r n entries) = true →
    let valid : Prop := n ≤ 511 ∧ 1 ≤ entries.length ∧ entries.length ≤ 8
      ∧ (∀ e ∈ entries, e.kind = 0 ∧ e.number ≤ 255) ∧ (entries.map (fun e => e.number)).Nodup
    (valid → ∃ t, exec (.writeRouteSet r n entries) s = .next t
      ∧ (∀ n', t.routeSet n' = if n' = n then entries.map (fun e => e.number) else s.routeSet n')
      ∧ t.rse = { s.rse with sets := t.rse.sets } ∧ s.SameBut [.pct, .rse] t
      ∧ t.pct = (s.deliver r (.writeRouteSet r n entries) ⟨.done, []⟩).pct)
    ∧ (¬ valid → exec (.writeRouteSet r n entries) s
      = .next (s.deliver r (.writeRouteSet r n entries) ⟨.badValue, []⟩))

/-- MASK_CHOICE sets or clears the mask of one choice and moves nothing. SET_FIRST on a choice of a rotating rank turns that rank's order so that the named position stands first and the cyclic order is kept; on a rank whose flag is off it is refused with WRONG_STATE. A position beyond the list gives BAD_VALUE in both (R53, R54). -/
def Obligations.ChoicesAreMaskedAndTurned : Prop :=
  (∀ (r : Requester) (d i m : Nat) (s : State), s.inService r (.maskChoice r d i m) = true →
    (d ≤ 4095 → i < (s.dest d).routes.length → m ≤ 1 →
      ∃ t, exec (.maskChoice r d i m) s = .next t
        ∧ (t.dest d).routes.length = (s.dest d).routes.length
        ∧ (∀ j, (t.dest d).routes[j]? = ((s.dest d).routes[j]?).map fun c =>
            if j = i then { c with masked := decide (m = 1) } else c)
        ∧ (t.dest d).rotate = (s.dest d).rotate ∧ (t.dest d).orders = (s.dest d).orders
        ∧ (t.dest d).restriction = (s.dest d).restriction
        ∧ (∀ d', d' ≠ d → t.dest d' = s.dest d') ∧ t.rse = { s.rse with dests := t.rse.dests }
        ∧ s.SameBut [.pct, .rse] t ∧ t.pct = (s.deliver r (.maskChoice r d i m) ⟨.done, []⟩).pct)
    ∧ (4095 < d ∨ (s.dest d).routes.length ≤ i ∨ 1 < m →
      exec (.maskChoice r d i m) s = .next (s.deliver r (.maskChoice r d i m) ⟨.badValue, []⟩)))
  ∧ ∀ (r : Requester) (d i : Nat) (s : State), s.inService r (.setFirst r d i) = true →
    (∀ c, d ≤ 4095 → (s.dest d).routes[i]? = some c → rotates (s.dest d) c.rank = true → s.RouteInv →
      ∃ t pre post, exec (.setFirst r d i) s = .next t
        ∧ Table.get [] (s.dest d).orders c.rank = pre ++ i :: post
        ∧ (∀ k, Table.get [] (t.dest d).orders k
            = if k = c.rank then i :: post ++ pre else Table.get [] (s.dest d).orders k)
        ∧ (t.dest d).routes = (s.dest d).routes ∧ (t.dest d).rotate = (s.dest d).rotate
        ∧ (t.dest d).restriction = (s.dest d).restriction
        ∧ (∀ d', d' ≠ d → t.dest d' = s.dest d') ∧ t.rse = { s.rse with dests := t.rse.dests }
        ∧ s.SameBut [.pct, .rse] t ∧ t.pct = (s.deliver r (.setFirst r d i) ⟨.done, []⟩).pct)
    ∧ (∀ c, d ≤ 4095 → (s.dest d).routes[i]? = some c → rotates (s.dest d) c.rank = false →
      exec (.setFirst r d i) s = .next (s.deliver r (.setFirst r d i) ⟨.wrongState, []⟩))
    ∧ (4095 < d ∨ (s.dest d).routes.length ≤ i →
      exec (.setFirst r d i) s = .next (s.deliver r (.setFirst r d i) ⟨.badValue, []⟩))

/-! ### The walk -/

/-- A walk that admits takes the first candidate whose group is usable, not yet examined, and admits the call; it gives that group's head circuit. Every candidate before it is not usable, or names a group that an earlier usable one named, which was then examined and refused, or refuses the call itself by the admission table. The walk counts one attempt on the winner's group, one attempt and one refusal on each other group that it examined, and nothing elsewhere (R61 to R64, R67, R85). The candidates are the groups that the choices of the route list yield, DIRECT or by their set, in the order of R60. A selection that wins is such a walk over the candidates of a destination with a route list, for a call that passes the gap check, and it changes nothing but the counters (R59, R75). -/
def Obligations.WalkTakesTheFirstGroupThatAdmits : Prop :=
  (∀ (s : State) (cls : CallClass) (inbound : Option Nat) (cands : List Candidate) (w : Winner)
    (records records' : Table CongestionRecord),
    walkFrom s cls inbound cands ⟨[], false⟩ records = (.ok w, records') →
    ∃ pre c post x, cands = pre ++ c :: post ∧ Usable s inbound c x ∧ Admits s cls c x
      ∧ x.freeList.head? = some w.circuit ∧ w.group = c.group ∧ w.rank = c.rank ∧ w.position = c.position
      ∧ (∀ c' ∈ pre, c'.group ≠ c.group ∨ ∀ y, ¬ Usable s inbound c' y)
      ∧ (∀ pre₁ c' pre₂ y, pre = pre₁ ++ c' :: pre₂ → Usable s inbound c' y →
        (∃ c'' ∈ pre₁, c''.group = c'.group ∧ Usable s inbound c'' y) ∨ ¬ Admits s cls c' y)
      ∧ ∀ g, let old := Table.get CongestionRecord.zero records g
        (g = w.group → Table.get CongestionRecord.zero records' g
          = { old with attempts := min (old.attempts + 1) 4294967295 })
        ∧ (g ≠ w.group → (∃ c' y, c' ∈ pre ∧ c'.group = g ∧ Usable s inbound c' y) →
          Table.get CongestionRecord.zero records' g
            = { old with attempts := min (old.attempts + 1) 4294967295
                         refusals := min (old.refusals + 1) 4294967295 })
        ∧ (g ≠ w.group → (∀ c' y, c' ∈ pre → c'.group = g → ¬ Usable s inbound c' y) →
          Table.get CongestionRecord.zero records' g = old))
  ∧ (∀ (s : State) (n : Nat), s.RouteInv →
    (∀ e, e ∈ candidates s (s.dest n) ↔ ∃ c, (s.dest n).routes[e.position]? = some c ∧ e.rank = c.rank
      ∧ e.masked = c.masked ∧ (c.target = .direct e.group ∨ ∃ m, c.target = .chained m ∧ e.group ∈ s.routeSet m))
    ∧ (candidates s (s.dest n)).Pairwise (YieldedBefore s (s.dest n)))
  ∧ ∀ (s s' : State) (n : Nat) (cls : CallClass) (inbound : Option Nat) (w : Winner),
    selectRoute n cls inbound s = (.ok w, s') ↔ (s.dest n).routes ≠ []
      ∧ (∀ x, (s.dest n).restriction = some x → cls = .ordinary ∨ cls = .low → x.nextAdmit ≤ s.tmb.running)
      ∧ ∃ records', walkFrom s cls inbound (candidates s (s.dest n)) ⟨[], false⟩ s.cmn.records = (.ok w, records')
        ∧ s' = { s with cmn := { s.cmn with records := records' } }

/-- A walk that fails has examined every usable group once, with one attempt and one refusal counted on each and nothing counted on any other, and its reason says what it met: CONGESTED where some usable group had a free circuit, ALL_BUSY where there were usable groups and none had, NO_ELIGIBLE where no group was usable (R61, R62, R67, R68, R85). -/
def Obligations.FailedWalkCountsAndGivesItsReason : Prop :=
  ∀ (s : State) (cls : CallClass) (inbound : Option Nat) (cands : List Candidate) (e : Reason)
    (records records' : Table CongestionRecord),
    walkFrom s cls inbound cands ⟨[], false⟩ records = (.error e, records') →
    (e = .congested ↔ ∃ c x, c ∈ cands ∧ Usable s inbound c x ∧ x.freeList ≠ [])
    ∧ (e = .allBusy ↔ (∃ c x, c ∈ cands ∧ Usable s inbound c x)
      ∧ ∀ c x, c ∈ cands → Usable s inbound c x → x.freeList = [])
    ∧ (e = .noEligible ↔ ∀ c x, c ∈ cands → ¬ Usable s inbound c x)
    ∧ ∀ g, let old := Table.get CongestionRecord.zero records g
      ((∃ c x, c ∈ cands ∧ c.group = g ∧ Usable s inbound c x) →
        Table.get CongestionRecord.zero records' g
          = { old with attempts := min (old.attempts + 1) 4294967295
                       refusals := min (old.refusals + 1) 4294967295 })
      ∧ ((∀ c x, c ∈ cands → c.group = g → ¬ Usable s inbound c x) →
        Table.get CongestionRecord.zero records' g = old)

/-- The admission table: emergency traffic needs one free circuit at any level; first-choice traffic needs one below level 3 and more than the reserve at it; overflow traffic needs more than the reserve below level 2, more than the doubled reserve, held to the count, at level 2, and is refused at level 3. ORDINARY and LOW calls are first-choice traffic at rank 0 and overflow traffic elsewhere (R63, R64). -/
def Obligations.AdmissionTableHolds : Prop :=
  ∀ (cls : CallClass) (rank level f reserve count : Nat), level ≤ 3 →
    (admits (trafficOf cls rank) level f reserve count = true ↔
      (cls = .emergency ∧ 1 ≤ f)
      ∨ ((cls = .priority ∨ ((cls = .ordinary ∨ cls = .low) ∧ rank = 0))
        ∧ ((level ≤ 2 ∧ 1 ≤ f) ∨ (level = 3 ∧ reserve < f)))
      ∨ ((cls = .ordinary ∨ cls = .low) ∧ rank ≠ 0
        ∧ ((level ≤ 1 ∧ reserve < f) ∨ (level = 2 ∧ min (2 * reserve) count < f))))
    ∧ (reserve = count → f ≤ count → cls = .ordinary ∨ cls = .low → rank ≠ 0 →
      admits (trafficOf cls rank) level f reserve count = false)

/-! ### ROUTE and REROUTE -/

/-- A ROUTE whose walk admits, for a call with no inbound circuit or with an IDLE one of a group that takes inbound traffic. The inbound circuit leaves its place in its free list and becomes BUSY, the winning group gives up its head circuit RESERVED, and the record at the head of the free-record queue is filled in by R28 with its deadline one guard time from now. Nothing else of the pool or of CRT changes (R17, R18, R28, R59, R65, R112, R113). -/
def Obligations.AdmittedRouteMakesTheRecord : Prop :=
  ∀ (r : Requester) (d n i : Nat) (cls : CallClass) (inb : Option Nat) (side : Option Inbound) (rest : List Nat)
    (s s' : State) (w : Winner),
    s.inService r (.route r d n inb) = true → s.TablesInv → s.PoolInv → d ≤ 4095 → classOf n = some cls →
    queueList s.crt.queue = i :: rest →
    ((inb = none ∧ side = none) ∨ ∃ c g x, inb = some c ∧ c ≤ 16383 ∧ s.group g = some x
      ∧ groupHolds c x = true ∧ x.state ≠ .blocked ∧ x.direction ≠ .outgoing
      ∧ (s.circuit c).state = .idle
      ∧ side = some ⟨g, c, (s.congestion g).level,
          if x.carrier = 0 then none
          else some (match (s.agreement x.carrier).state with | .confirmed m => m | _ => 0)⟩) →
    selectRoute d cls (side.map (fun b => b.group)) s = (.ok w, s') →
    ∃ t x, exec (.route r d n inb) s = .next t ∧ s.group w.group = some x
      ∧ x.freeList.head? = some w.circuit ∧ side.map (fun b => b.group) ≠ some w.group
      ∧ t.call i = some {
          state := .reserved, owner := r.port, dest := d, cls := cls, inbound := side,
          outbound := some {
            group := w.group, circuit := w.circuit, rank := w.rank,
            firstChoice := decide (w.rank = 0 ∨ cls = .priority), level := (s.congestion w.group).level,
            payable := if x.carrier = 0 then none else agreedSlot (s.agreement x.carrier).state },
          deadline := some (s.tmb.running + 1000 * s.crt.guardSeconds), answer := none }
      ∧ (∀ i', i' ≠ i → t.call i' = s.call i') ∧ (∀ i', t.gen i' = s.gen i')
      ∧ queueList t.crt.queue = rest ∧ t.crt.guardSeconds = s.crt.guardSeconds
      ∧ t.group w.group = some { x with freeList := x.freeList.tail, busy := x.busy + 1 }
      ∧ (∀ b, side = some b → t.group b.group = (s.group b.group).map fun y =>
          { y with freeList := y.freeList.erase b.circuit, busy := y.busy + 1 })
      ∧ (∀ g, g ≠ w.group → side.map (fun b => b.group) ≠ some g → t.group g = s.group g)
      ∧ (∀ c, t.circuit c = if c = w.circuit then ⟨.reserved, false⟩
          else if inb = some c then ⟨.busy, false⟩ else s.circuit c)
      ∧ (∀ d', d' ≠ d → t.dest d' = s.dest d') ∧ t.rse = { s.rse with dests := t.rse.dests }
      ∧ t.cmn = s'.cmn ∧ s.SameBut [.pct, .cpl, .crt, .rse, .cmn] t
      ∧ t.pct = (s.deliver r (.route r d n inb) ⟨.routed, beBytes 2 i ++ beBytes 1 (s.gen i)
          ++ beBytes 1 w.group ++ beBytes 2 w.circuit⟩).pct

/-- A ROUTE that places no call. A range fault gives BAD_VALUE and an empty free-record queue NO_ROUTE ALL_BUSY, whatever inbound circuit it names. Where it names none, or an IDLE one of a group that takes inbound traffic, an empty route list gives UNROUTABLE and an ORDINARY or LOW call before the next-admit time DEST_GAPPED, each with nothing changed; a walk that fails gives its reason and changes nothing but its counts. The inbound circuit keeps its place (R18, R26, R29, R59, R68, R75). -/
def Obligations.RefusedRouteChangesNothing : Prop :=
  ∀ (r : Requester) (d n : Nat) (inb : Option Nat) (s : State), s.inService r (.route r d n inb) = true →
    (4095 < d ∨ 3 < n → exec (.route r d n inb) s
      = .next (s.deliver r (.route r d n inb) ⟨.badValue, []⟩))
    ∧ ∀ cls, d ≤ 4095 → classCode cls = n →
      (queueList s.crt.queue = [] → exec (.route r d n inb) s
        = .next (s.deliver r (.route r d n inb) ⟨.noRoute, [3]⟩))
      ∧ (∀ grp, queueList s.crt.queue ≠ [] →
        ((inb = none ∧ grp = none) ∨ (s.TablesInv ∧ s.PoolInv ∧ ∃ c g x, inb = some c ∧ c ≤ 16383
          ∧ s.group g = some x ∧ groupHolds c x = true ∧ x.state ≠ .blocked ∧ x.direction ≠ .outgoing
          ∧ (s.circuit c).state = .idle ∧ grp = some g)) →
        ((s.dest d).routes = [] → exec (.route r d n inb) s
          = .next (s.deliver r (.route r d n inb) ⟨.noRoute, [0]⟩))
        ∧ (∀ x, (s.dest d).routes ≠ [] → (s.dest d).restriction = some x → cls = .ordinary ∨ cls = .low →
          s.tmb.running < x.nextAdmit → exec (.route r d n inb) s
            = .next (s.deliver r (.route r d n inb) ⟨.noRoute, [1]⟩))
        ∧ ((s.dest d).routes ≠ [] →
          ((s.dest d).restriction = none ∨ cls = .emergency ∨ cls = .priority
            ∨ ∃ x, (s.dest d).restriction = some x ∧ x.nextAdmit ≤ s.tmb.running) →
          ∀ e records', walkFrom s cls grp (candidates s (s.dest d)) ⟨[], false⟩ s.cmn.records
            = (.error e, records') →
          exec (.route r d n inb) s = .next ({ s with cmn := { s.cmn with records := records' } }.deliver r
            (.route r d n inb) ⟨.noRoute, beBytes 1 (reasonCode e)⟩)))

/-- The inbound circuit of a ROUTE that is refused: above 16383, or of an OUTGOING group, BAD_VALUE; unassigned or of a BLOCKED group, GROUP_BLOCKED; MAINT, CIRCUIT_OUT; BUSY, CIRCUIT_BUSY; in the order of R29. A RESERVED circuit of a LOCAL_WINS group gives GLARE. Nothing but the reply is added: the reserving record, its circuit and deadline, the group, every count and every notice queue stay as they were (R29, R30). -/
def Obligations.InboundCircuitsAreChecked : Prop :=
  ∀ (r : Requester) (d n c : Nat) (cls : CallClass) (s : State),
    s.inService r (.route r d n (some c)) = true → s.TablesInv → s.PoolInv → d ≤ 4095 →
    classOf n = some cls → queueList s.crt.queue ≠ [] →
    (16383 < c → exec (.route r d n (some c)) s
      = .next (s.deliver r (.route r d n (some c)) ⟨.badValue, []⟩))
    ∧ (c ≤ 16383 → (∀ g x, s.group g = some x → groupHolds c x = false) → exec (.route r d n (some c)) s
      = .next (s.deliver r (.route r d n (some c)) ⟨.groupBlocked, []⟩))
    ∧ ∀ g x, c ≤ 16383 → s.group g = some x → groupHolds c x = true →
      (x.state = .blocked → exec (.route r d n (some c)) s
        = .next (s.deliver r (.route r d n (some c)) ⟨.groupBlocked, []⟩))
      ∧ (x.state ≠ .blocked → x.direction = .outgoing → exec (.route r d n (some c)) s
        = .next (s.deliver r (.route r d n (some c)) ⟨.badValue, []⟩))
      ∧ (x.state ≠ .blocked → x.direction ≠ .outgoing → (s.circuit c).state = .maint →
        exec (.route r d n (some c)) s = .next (s.deliver r (.route r d n (some c)) ⟨.circuitOut, []⟩))
      ∧ (x.state ≠ .blocked → x.direction ≠ .outgoing → (s.circuit c).state = .busy →
        exec (.route r d n (some c)) s = .next (s.deliver r (.route r d n (some c)) ⟨.circuitBusy, []⟩))
      ∧ (x.state ≠ .blocked → x.direction ≠ .outgoing → (s.circuit c).state = .reserved → x.glare = .localWins →
        exec (.route r d n (some c)) s = .next (s.deliver r (.route r d n (some c)) ⟨.glare, []⟩))

/-- Glare under FAR_WINS: the record that reserves the circuit becomes DISPLACED, with its outbound side gone, its inbound side kept and its deadline renewed, and its owner is told. Where the walk then fails, the circuit is freed, with GROUP_DRAINED where that completes the drain of its group (R13), and no record is made; where it admits, the circuit is BUSY with its mark kept, the busy count of its group unchanged, as the inbound circuit of the new record, which is filled in by R28 with its deadline one guard time from now, and the winning group gives up its head circuit (R28, R31, R32, R112, R113). -/
def Obligations.FarWinsGlareDisplaces : Prop :=
  ∀ (r : Requester) (d n c g i j : Nat) (cls : CallClass) (s s' : State) (x : Group) (o : CallRecord)
    (rest : List Nat) (res : Except Reason Winner),
    s.inService r (.route r d n (some c)) = true → s.TablesInv → s.PoolInv → s.QueueInv → d ≤ 4095 →
    classOf n = some cls → queueList s.crt.queue = i :: rest → c ≤ 16383 → s.group g = some x →
    groupHolds c x = true → x.state ≠ .blocked → x.direction ≠ .outgoing → (s.circuit c).state = .reserved →
    x.glare = .farWins → s.call j = some o → c ∈ o.circuits →
    selectRoute d cls (some g) s = (res, s') →
    ∃ t, exec (.route r d n (some c)) s = .next t
      ∧ t.call j = some { o with
          state := .displaced, outbound := none, deadline := some (s.tmb.running + 1000 * s.crt.guardSeconds) }
      ∧ (∀ k, k ≠ i → k ≠ j → t.call k = s.call k) ∧ (∀ k, t.gen k = s.gen k)
      ∧ t.cmn = s'.cmn ∧ s.SameBut [.pct, .cpl, .crt, .rse, .cmn] t
      ∧ (∀ e, res = .error e → t.call i = s.call i ∧ queueList t.crt.queue = i :: rest ∧ t.rse = s.rse
        ∧ t.group g = some (groupAfterFreeing c (s.circuit c).mark x)
        ∧ (∀ g', g' ≠ g → t.group g' = s.group g')
        ∧ (∀ c', t.circuit c' = if c' = c then (if (s.circuit c).mark then ⟨.maint, false⟩ else Circuit.idle)
            else s.circuit c')
        ∧ t.pct = (((s.raiseTo o.owner (.displaced j (s.gen j))).raiseEach
            (if x.state = .draining ∧ x.busy = 1 then [.groupDrained g] else [])).deliver r
            (.route r d n (some c)) ⟨.noRoute, beBytes 1 (reasonCode e)⟩).pct)
      ∧ (∀ w, res = .ok w → ∃ y, s.group w.group = some y ∧ y.freeList.head? = some w.circuit
        ∧ t.call i = some {
            state := .reserved, owner := r.port, dest := d, cls := cls
            inbound := some ⟨g, c, (s.congestion g).level,
              if x.carrier = 0 then none
              else some (match (s.agreement x.carrier).state with | .confirmed m => m | _ => 0)⟩
            outbound := some {
              group := w.group, circuit := w.circuit, rank := w.rank,
              firstChoice := decide (w.rank = 0 ∨ cls = .priority), level := (s.congestion w.group).level,
              payable := if y.carrier = 0 then none else agreedSlot (s.agreement y.carrier).state }
            deadline := some (s.tmb.running + 1000 * s.crt.guardSeconds), answer := none }
        ∧ queueList t.crt.queue = rest ∧ t.crt.guardSeconds = s.crt.guardSeconds
        ∧ t.group g = s.group g ∧ w.group ≠ g
        ∧ t.group w.group = some { y with freeList := y.freeList.tail, busy := y.busy + 1 }
        ∧ (∀ g', g' ≠ w.group → t.group g' = s.group g')
        ∧ (∀ c', t.circuit c' = if c' = w.circuit then ⟨.reserved, false⟩
            else if c' = c then ⟨.busy, (s.circuit c).mark⟩ else s.circuit c')
        ∧ t.pct = ((s.raiseTo o.owner (.displaced j (s.gen j))).deliver r (.route r d n (some c))
            ⟨.routed, beBytes 2 i ++ beBytes 1 (s.gen i) ++ beBytes 1 w.group ++ beBytes 2 w.circuit⟩).pct)

/-- REROUTE by the owner. In any state but DISPLACED it is answered WRONG_STATE. A DISPLACED record whose walk fails stays as it was, its deadline too. One whose walk admits becomes RESERVED on the winning group's head circuit with a new deadline, its inbound level kept and its slots locked anew (R38, R69, R112, R113). -/
def Obligations.ReroutePlacesADisplacedCall : Prop :=
  ∀ (r : Requester) (i g : Nat) (s s' : State) (x : CallRecord) (res : Except Reason Winner),
    s.inService r (.reroute r i g) = true → i < 16384 → s.call i = some x → s.gen i = g →
    x.owner = r.port → s.PoolInv →
    selectRoute x.dest x.cls (x.inbound.map (fun b => b.group)) s = (res, s') →
    (x.state ≠ .displaced → exec (.reroute r i g) s = .next (s.deliver r (.reroute r i g) ⟨.wrongState, []⟩))
    ∧ (x.state = .displaced → ∀ e, res = .error e →
      exec (.reroute r i g) s
        = .next (s'.deliver r (.reroute r i g) ⟨.noRoute, beBytes 1 (reasonCode e)⟩)
      ∧ s' = { s with cmn := { s.cmn with records := s'.cmn.records } })
    ∧ (x.state = .displaced → ∀ w, res = .ok w →
      ∃ t y, exec (.reroute r i g) s = .next t ∧ s.group w.group = some y
        ∧ y.freeList.head? = some w.circuit
        ∧ t.call i = some { x with
            state := .reserved
            inbound := x.inbound.map fun b => { b with receivable := b.receivable.map fun _ =>
              match (s.agreement (s.carrierOf b.group)).state with | .confirmed m => m | _ => 0 }
            outbound := some {
              group := w.group, circuit := w.circuit, rank := w.rank,
              firstChoice := decide (w.rank = 0 ∨ x.cls = .priority), level := (s.congestion w.group).level,
              payable := if y.carrier = 0 then none else agreedSlot (s.agreement y.carrier).state }
            deadline := some (s.tmb.running + 1000 * s.crt.guardSeconds) }
        ∧ (∀ i', i' ≠ i → t.call i' = s.call i') ∧ t.crt = { s.crt with calls := t.crt.calls }
        ∧ t.group w.group = some { y with freeList := y.freeList.tail, busy := y.busy + 1 }
        ∧ (∀ g', g' ≠ w.group → t.group g' = s.group g')
        ∧ (∀ c, t.circuit c = if c = w.circuit then ⟨.reserved, false⟩ else s.circuit c)
        ∧ (∀ d', d' ≠ x.dest → t.dest d' = s.dest d') ∧ t.rse = { s.rse with dests := t.rse.dests }
        ∧ t.cmn = s'.cmn ∧ s.SameBut [.pct, .cpl, .crt, .rse, .cmn] t
        ∧ t.pct = (s.deliver r (.reroute r i g) ⟨.routed, beBytes 2 i ++ beBytes 1 g
            ++ beBytes 1 w.group ++ beBytes 2 w.circuit⟩).pct)

/-- What a ROUTE or a REROUTE does to its destination: its route list, flags and restriction interval and end stand; an order moves only by one position of it going to its end; and the restriction moves only when an ORDINARY or LOW call is placed at or after the next-admit time, to a last admission now and a next-admit time one interval on. Where the ROUTE or REROUTE is placed by a selection that wins, the destination does move as `Dest.Placed` says: the winner's position goes to the end of its rank's order exactly where the rank rotates, an ORDINARY or LOW call sets the last admission to now and the next-admit time one interval on, and a PRIORITY or EMERGENCY call leaves the restriction. So two such admissions to a restricted destination are at least the interval in force apart (R66, R75, R76). -/
def Obligations.AdmissionsAreSpacedByTheGap : Prop :=
  (∀ (r : Requester) (d n : Nat) (cls : CallClass) (inb grp : Option Nat) (s s' : State) (w : Winner),
    s.inService r (.route r d n inb) = true → d ≤ 4095 → classOf n = some cls → queueList s.crt.queue ≠ [] →
    ((inb = none ∧ grp = none) ∨ ∃ c g glare, inb = some c ∧ checkInbound s c = .ok (g, glare) ∧ grp = some g) →
    selectRoute d cls grp s = (.ok w, s') →
    ∃ t, exec (.route r d n inb) s = .next t ∧ (s.dest d).Placed s.tmb.running cls w (t.dest d)
      ∧ ∀ d', d' ≠ d → t.dest d' = s.dest d')
  ∧ (∀ (r : Requester) (i g : Nat) (x : CallRecord) (s s' : State) (w : Winner),
    s.inService r (.reroute r i g) = true → i < 16384 → s.call i = some x → s.gen i = g → x.owner = r.port →
    x.state = .displaced → selectRoute x.dest x.cls (x.inbound.map (fun b => b.group)) s = (.ok w, s') →
    ∃ t, exec (.reroute r i g) s = .next t ∧ (s.dest x.dest).Placed s.tmb.running x.cls w (t.dest x.dest)
      ∧ ∀ d', d' ≠ x.dest → t.dest d' = s.dest d')
  ∧ ∀ (r : Requester) (c : Instr) (d : Nat) (cls : CallClass) (s t : State),
    ((∃ n inb, c = .route r d n inb ∧ classOf n = some cls)
      ∨ ∃ i g x, c = .reroute r i g ∧ s.call i = some x ∧ x.dest = d ∧ x.cls = cls) →
    exec c s = .next t →
    (t.dest d).routes = (s.dest d).routes ∧ (t.dest d).rotate = (s.dest d).rotate
    ∧ (∀ k, Table.get [] (t.dest d).orders k = Table.get [] (s.dest d).orders k
      ∨ ∃ i, Table.get [] (t.dest d).orders k = (Table.get [] (s.dest d).orders k).erase i ++ [i])
    ∧ (∀ d', d' ≠ d → t.dest d' = s.dest d')
    ∧ ((s.dest d).restriction = none → (t.dest d).restriction = none)
    ∧ ∀ x, (s.dest d).restriction = some x → (t.dest d).restriction = some x
      ∨ ((cls = .ordinary ∨ cls = .low) ∧ x.nextAdmit ≤ s.tmb.running
        ∧ (t.dest d).restriction = some { x with
            lastAdmit := some s.tmb.running, nextAdmit := s.tmb.running + x.gap * 100 }
        ∧ (x.Inv s.tmb.running → ∀ last, x.lastAdmit = some last → last + x.gap * 100 ≤ s.tmb.running))

/-! ### Restriction -/

/-- FAR_CONGESTION clamps the interval to 1 to 600 and the duration to 1 to 3600. On an OPEN destination it opens a restriction whose next ordinary call is admitted at once. On a RESTRICTED one it never loosens: a larger interval replaces the one in force and moves the next-admit time from the last admission, and the end only moves later. The reply carries the restriction (R73, R74), a time beyond 2^48−1 coded by a free value (log entry 17). -/
def Obligations.FarCongestionOnlyTightens : Prop :=
  ∀ (r : Requester) (d gap dur : Nat) (s : State), s.inService r (.farCongestion r d gap dur) = true →
    (4095 < d → exec (.farCongestion r d gap dur) s
      = .next (s.deliver r (.farCongestion r d gap dur) ⟨.badValue, []⟩))
    ∧ (d ≤ 4095 → ∀ g n, g = (if gap = 0 then 1 else if 600 < gap then 600 else gap) →
      n = (if dur = 0 then 1 else if 3600 < dur then 3600 else dur) →
      ∃ t x, exec (.farCongestion r d gap dur) s = .next t ∧ (t.dest d).restriction = some x
        ∧ ((s.dest d).restriction = none →
          x = ⟨g, s.tmb.running, none, s.tmb.running + n * 1000⟩)
        ∧ (∀ y, (s.dest d).restriction = some y → x.gap = max g y.gap ∧ x.lastAdmit = y.lastAdmit
          ∧ x.endTime = max y.endTime (s.tmb.running + n * 1000)
          ∧ x.nextAdmit = (match y.lastAdmit with
            | some a => if y.gap < g then a + g * 100 else y.nextAdmit
            | none => y.nextAdmit))
        ∧ (t.dest d).routes = (s.dest d).routes ∧ (t.dest d).rotate = (s.dest d).rotate
        ∧ (t.dest d).orders = (s.dest d).orders
        ∧ (∀ d', d' ≠ d → t.dest d' = s.dest d') ∧ t.rse = { s.rse with dests := t.rse.dests }
        ∧ s.SameBut [.pct, .rse] t
        ∧ t.pct = (s.deliver r (.farCongestion r d gap dur)
            ⟨if g = gap ∧ n = dur then .done else .adjusted, restrictionBytes (some x)⟩).pct)

/-- A restriction ends by FAR_CLEAR or when its end time is reached: the destination is OPEN, the rest of it stands, and DEST_OPENED is raised to every port. FAR_CLEAR of an OPEN destination is answered DONE with nothing changed, and a gap expiry changes nothing (R75, R77, R78). An end that is not due changes nothing, which is the model's choice (log entry 3). -/
def Obligations.RestrictionsEnd : Prop :=
  (∀ (c : Instr) (d : Nat) (s u : State) (x : Restriction), (s.dest d).restriction = some x →
    ((∃ r, c = .farClear r d ∧ d ≤ 4095 ∧ s.inService r c = true
        ∧ u = (s.raiseAll (.destOpened d)).deliver r c ⟨.done, []⟩)
      ∨ (c = .restrictionEnd d ∧ x.endTime ≤ s.tmb.running ∧ u = s.raiseAll (.destOpened d))) →
    ∃ t, exec c s = .next t ∧ t.dest d = { s.dest d with restriction := none }
      ∧ (∀ d', d' ≠ d → t.dest d' = s.dest d') ∧ t.rse = { s.rse with dests := t.rse.dests }
      ∧ s.SameBut [.pct, .rse] t ∧ t.pct = u.pct)
  ∧ (∀ (r : Requester) (d : Nat) (s : State), s.inService r (.farClear r d) = true →
    (4095 < d → exec (.farClear r d) s = .next (s.deliver r (.farClear r d) ⟨.badValue, []⟩))
    ∧ (d ≤ 4095 → (s.dest d).restriction = none →
      exec (.farClear r d) s = .next (s.deliver r (.farClear r d) ⟨.done, []⟩)))
  ∧ (∀ (d : Nat) (s : State), (∀ x, (s.dest d).restriction = some x → s.tmb.running < x.endTime) →
    exec (.restrictionEnd d) s = .next s)
  ∧ ∀ (d : Nat) (s : State), exec (.gapExpiry d) s = .next s

/-! ### Congestion -/

/-- A period end that is due: each defined group's index, level and latch are computed with its in-force profile from its occupancy sample and refusal fraction as they stand, its counters are set to 0, every change of level raises LEVEL_CHANGE to all ports in ascending group number, a group number that is UNDEFINED takes no part, then the staged profiles and period code take force and the next period end lies one period of the staged code on (R86 to R88, R91, R92). A period end that is not due changes nothing, which is the model's choice (log entry 3). -/
def Obligations.PeriodEndMeasuresEveryGroup : Prop :=
  (∀ s : State, s.cmn.nextPeriodEnd ≤ s.tmb.running → s.TablesInv →
    ∃ t, exec .periodEnd s = .next t
      ∧ (∀ g x, s.group g = some x → ∃ oc fb e l,
        oc = x.busy * 4096 / x.count
        ∧ fb = (if (s.congestion g).attempts = 0 then 0
            else (s.congestion g).refusals * 4096 / (s.congestion g).attempts)
        ∧ e = newIndex (s.congestion g).index oc (s.profile x.profile).shift
        ∧ l = newLevel (s.profile x.profile) (s.congestion g).level (max e fb)
        ∧ t.congestion g = { index := e, level := l, attempts := 0, refusals := 0,
                             peak := max (s.congestion g).peak l })
      ∧ (∀ g, s.group g = none → t.congestion g = s.congestion g)
      ∧ (∀ n, t.profile n = s.stagedProfile n ∧ t.stagedProfile n = s.stagedProfile n)
      ∧ t.cmn.inForcePeriod = s.cmn.stagedPeriod ∧ t.cmn.stagedPeriod = s.cmn.stagedPeriod
      ∧ (∀ ms, (s.cmn.stagedPeriod, ms) ∈ [(0, 2000), (1, 5000), (2, 10000), (3, 20000)] →
        t.cmn.nextPeriodEnd = s.cmn.nextPeriodEnd + ms)
      ∧ t.pct = (s.raiseEach ((List.range 256).filterMap fun g =>
          if (s.group g).isSome ∧ (t.congestion g).level ≠ (s.congestion g).level then
            some (.levelChange g (s.congestion g).level (t.congestion g).level) else none)).pct
      ∧ s.SameBut [.pct, .cmn] t)
  ∧ ∀ s : State, s.tmb.running < s.cmn.nextPeriodEnd → exec .periodEnd s = .next s

/-- The smoothing of the index: with shift k the index moves by the distance to the sample over 2 to the power k, truncated toward zero, and by one towards it where that is 0 and the distance is not. So an index and a sample in 0 to 4096 give an index there, that lies between the two, and differs from the old one unless they are equal (R89). -/
def Obligations.IndexMovesTowardsTheSample : Prop :=
  ∀ (e oc k : Nat), e ≤ 4096 → oc ≤ 4096 → k ≤ 4 →
    (e ≤ oc → newIndex e oc k = e + (if oc = e then 0 else max ((oc - e) / 2 ^ k) 1))
    ∧ (oc ≤ e → newIndex e oc k = e - (if oc = e then 0 else max ((e - oc) / 2 ^ k) 1))
    ∧ newIndex e oc k ≤ 4096
    ∧ min e oc ≤ newIndex e oc k ∧ newIndex e oc k ≤ max e oc
    ∧ (k = 0 → newIndex e oc k = oc)

/-- The new level: the larger of the number of rising thresholds that G reaches and the lesser of the old level and the number of falling ones. It lies in 0 to 3, is at least each i whose rising threshold G reaches, is at most the larger of the old level and L_up, and is 3 where every examination of the period was refused (R88, R90). -/
def Obligations.LevelFollowsTheThresholds : Prop :=
  ∀ (p : Profile) (l g : Nat), l ≤ 3 →
    newLevel p l g = max ((if p.u1 ≤ g then 1 else 0) + (if p.u2 ≤ g then 1 else 0) + (if p.u3 ≤ g then 1 else 0))
      (min l ((if p.u1 - p.hysteresis ≤ g then 1 else 0) + (if p.u2 - p.hysteresis ≤ g then 1 else 0)
        + (if p.u3 - p.hysteresis ≤ g then 1 else 0)))
    ∧ newLevel p l g ≤ 3
    ∧ (∀ n busy count r, 0 < n → thresholdsValid p = true → r.attempts = n → r.refusals = n →
      (measured p busy count r).level = 3 ∧ (measured p busy count r).peak = max r.peak 3)

/-- WRITE_PROFILE with rising thresholds in 1 to 4096 replaces the staged copy, H and k clamped, and SET_PERIOD with a code 0 to 3 the staged code; nothing in force changes. Other values give BAD_VALUE. READ_CONGESTION's group form reports each latch as it stood and then sets it to the level, changing nothing else (R93, R94, R96). That the entries are led by a byte with their count is the model's inference (log entry 7). -/
def Obligations.StagedCopiesAndLatches : Prop :=
  (∀ (r : Requester) (n : Nat) (p : Profile) (s : State), s.inService r (.writeProfile r n p) = true →
    let valid : Prop := n ≤ 7 ∧ 1 ≤ p.u1 ∧ p.u1 < p.u2 ∧ p.u2 < p.u3 ∧ p.u3 ≤ 4096
    (valid → ∃ t, exec (.writeProfile r n p) s = .next t
      ∧ (∀ m, t.stagedProfile m = if m = n then
          { p with hysteresis := if 1023 < p.hysteresis then 1023 else p.hysteresis
                   shift := if 4 < p.shift then 4 else p.shift }
          else s.stagedProfile m)
      ∧ t.cmn = { s.cmn with staged := t.cmn.staged } ∧ s.SameBut [.pct, .cmn] t
      ∧ t.pct = (s.deliver r (.writeProfile r n p)
          ⟨if 1023 < p.hysteresis ∨ 4 < p.shift then .adjusted else .done, []⟩).pct)
    ∧ (¬ valid → exec (.writeProfile r n p) s = .next (s.deliver r (.writeProfile r n p) ⟨.badValue, []⟩)))
  ∧ (∀ (r : Requester) (n : Nat) (s : State), s.inService r (.setPeriod r n) = true →
    (n ≤ 3 → ∃ t, exec (.setPeriod r n) s = .next t ∧ t.cmn = { s.cmn with stagedPeriod := n }
      ∧ s.SameBut [.pct, .cmn] t ∧ t.pct = (s.deliver r (.setPeriod r n) ⟨.done, []⟩).pct)
    ∧ (3 < n → exec (.setPeriod r n) s = .next (s.deliver r (.setPeriod r n) ⟨.badValue, []⟩)))
  ∧ ∀ (r : Requester) (first n : Nat) (s : State), s.inService r (.readCongestionGroup r first n) = true →
    (first ≤ 255 → ∃ t m, exec (.readCongestionGroup r first n) s = .next t
      ∧ m = (if n = 0 then 1 else if 16 < n then 16 else n)
      ∧ (∀ g, t.congestion g = if first ≤ g ∧ g < first + m ∧ g ≤ 255 ∧ (s.group g).isSome = true then
          { s.congestion g with peak := (s.congestion g).level } else s.congestion g)
      ∧ t.cmn = { s.cmn with records := t.cmn.records } ∧ s.SameBut [.pct, .cmn] t
      ∧ t.pct = (s.deliver r (.readCongestionGroup r first n) ⟨if m = n then .done else .adjusted,
          listBytes (congestionEntry s) (List.range' first (min m (256 - first)))⟩).pct)

/-! ### Agreements -/

/-- An offer that is written, or withdrawn, resolves the record by R103: UNSET without a local offer, OFFER_HELD without a carrier offer, MATCHED at the first slot of the local offer that the carrier offer holds, else MISMATCH, never CONFIRMED. The reply carries the record, and AGREEMENT_STATE is raised exactly when the state changes (R103, R104, R105, R107, R108). The ascending order of the carrier offer's slots in the reply is the model's choice (log entry 19). -/
def Obligations.OffersAreResolved : Prop :=
  ∀ (r : Requester) (c : Nat) (q : Instr) (s : State) (offer : List Nat) (relayed : Option (List Nat)),
    s.inService r q = true → 1 ≤ c → c ≤ 63 →
    ((∃ l, q = .writeLocalOffer r c l ∧ l.length ≤ 3 ∧ (∀ n ∈ l, 1 ≤ n ∧ n ≤ 3) ∧ l.Nodup ∧ offer = l
        ∧ relayed = (s.agreement c).carrierOffer)
      ∨ (∃ l, q = .writeCarrierOffer r c l ∧ l.length ≤ 3 ∧ (∀ n ∈ l, 1 ≤ n ∧ n ≤ 3) ∧ l.Nodup
        ∧ offer = (s.agreement c).localOffer ∧ relayed = some ([1, 2, 3].filter (fun n => decide (n ∈ l))))
      ∨ (q = .withdrawAgreement r c ∧ offer = (s.agreement c).localOffer ∧ relayed = none)) →
    ∃ t, exec q s = .next t ∧ (t.agreement c).localOffer = offer ∧ (t.agreement c).carrierOffer = relayed
      ∧ (offer = [] → (t.agreement c).state = .unset)
      ∧ (offer ≠ [] → relayed = none → (t.agreement c).state = .offerHeld)
      ∧ (∀ set pre n post, relayed = some set → offer = pre ++ n :: post → (∀ m ∈ pre, m ∉ set) → n ∈ set →
        (t.agreement c).state = .matched n)
      ∧ (∀ set, relayed = some set → offer ≠ [] → (∀ m ∈ offer, m ∉ set) → (t.agreement c).state = .mismatch)
      ∧ (∀ c', c' ≠ c → t.agreement c' = s.agreement c') ∧ s.SameBut [.pct, .cau] t
      ∧ t.pct = ((if agreementName (t.agreement c).state = agreementName (s.agreement c).state then s
          else s.raiseAll (.agreementState c (agreementName (t.agreement c).state))).deliver r q
            ⟨.done, agreementBytes (t.agreement c)⟩).pct

/-- CONFIRM_AGREEMENT on a MATCHED record makes it CONFIRMED where the reported slot is the agreed one and MISMATCH otherwise, the offers kept, with one notice; in any other state it is answered WRONG_STATE. Every request of the chapter refuses carrier 0 or above 63, and a slot or a list out of range, with BAD_VALUE (R102, R104 to R106, R108). The ascending order of the carrier offer's slots in the reply is the model's choice (log entry 19). -/
def Obligations.ReportsConfirmOrMismatch : Prop :=
  (∀ (r : Requester) (c n m : Nat) (s : State), s.inService r (.confirmAgreement r c n) = true → 1 ≤ c → c ≤ 63 →
    1 ≤ n → n ≤ 3 → (s.agreement c).state = .matched m →
    ∃ t, exec (.confirmAgreement r c n) s = .next t
      ∧ t.agreement c = { s.agreement c with state := if n = m then .confirmed m else .mismatch }
      ∧ (∀ c', c' ≠ c → t.agreement c' = s.agreement c') ∧ s.SameBut [.pct, .cau] t
      ∧ t.pct = ((s.raiseAll (.agreementState c (if n = m then .confirmed else .mismatch))).deliver r
          (.confirmAgreement r c n) ⟨.done, agreementBytes (t.agreement c)⟩).pct)
  ∧ (∀ (r : Requester) (c n : Nat) (s : State), s.inService r (.confirmAgreement r c n) = true → 1 ≤ c → c ≤ 63 →
    1 ≤ n → n ≤ 3 → (∀ m, (s.agreement c).state ≠ .matched m) →
    exec (.confirmAgreement r c n) s = .next (s.deliver r (.confirmAgreement r c n) ⟨.wrongState, []⟩))
  ∧ ∀ (r : Requester) (q : Instr) (s : State), s.inService r q = true →
    ((∃ c l, (q = .writeLocalOffer r c l ∨ q = .writeCarrierOffer r c l)
        ∧ (c = 0 ∨ 63 < c ∨ 3 < l.length ∨ (∃ n ∈ l, n = 0 ∨ 3 < n) ∨ ¬ l.Nodup))
      ∨ (∃ c n, q = .confirmAgreement r c n ∧ (c = 0 ∨ 63 < c ∨ n = 0 ∨ 3 < n))
      ∨ (∃ c, q = .withdrawAgreement r c ∧ (c = 0 ∨ 63 < c))
      ∨ ∃ c n, q = .readAgreement r c n ∧ (c = 0 ∨ 63 < c ∨ n = 0 ∨ 8 < n)) →
    exec q s = .next (s.deliver r q ⟨.badValue, []⟩)

/-! ### Rating -/

/-- WRITE_TARIFF writes the pending copy of one class, T clamped to 1 to 3600 and M to 255, and WRITE_BANDS the pending band table; nothing in force changes, and other values give BAD_VALUE (R117, R119). -/
def Obligations.PendingTariffsAreWritten : Prop :=
  (∀ (r : Requester) (c n : Nat) (v : TariffClass) (s : State), s.inService r (.writeTariff r c n v) = true →
    (1 ≤ c → c ≤ 63 → n ≤ 3 → ∃ t w, exec (.writeTariff r c n v) s = .next t
      ∧ w = { v with step := if v.step = 0 then 1 else if 3600 < v.step then 3600 else v.step
                     minSteps := if 255 < v.minSteps then 255 else v.minSteps }
      ∧ t.pendingTariff c n = w
      ∧ (∀ c' n', n' ≤ 3 → (c', n') ≠ (c, n) → t.pendingTariff c' n' = s.pendingTariff c' n')
      ∧ t.hru = { s.hru with pendingClasses := t.hru.pendingClasses } ∧ s.SameBut [.pct, .hru] t
      ∧ t.pct = (s.deliver r (.writeTariff r c n v)
          ⟨if v.step = 0 ∨ 3600 < v.step ∨ 255 < v.minSteps then .adjusted else .done, tariffBytes w⟩).pct)
    ∧ (c = 0 ∨ 63 < c ∨ 3 < n →
      exec (.writeTariff r c n v) s = .next (s.deliver r (.writeTariff r c n v) ⟨.badValue, []⟩)))
  ∧ ∀ (r : Requester) (l : List SwitchPoint) (s : State), s.inService r (.writeBands r l) = true →
    let valid : Prop := l.length ≤ 8 ∧ (∀ p ∈ l, p.second ≤ 86399 ∧ p.band ≤ 3)
      ∧ l.Pairwise fun p q => p.second < q.second
    (valid → ∃ t, exec (.writeBands r l) s = .next t ∧ t.hru = { s.hru with pendingBands := l }
      ∧ s.SameBut [.pct, .hru] t ∧ t.pct = (s.deliver r (.writeBands r l) ⟨.done, []⟩).pct)
    ∧ (¬ valid → exec (.writeBands r l) s = .next (s.deliver r (.writeBands r l) ⟨.badValue, []⟩))

/-- The charge of an answered leg for a class in its ranges: the duration is clamped to 24 hours with the LONG_CALL mark, the steps are the whole or begun steps of it and at least the minimum, at most 86,400, and the charge lies between the base charge and twice it, below 2 to the power 34. An unanswered leg has charge 0, no steps and no mark (R124 to R129). -/
def Obligations.ChargesLieBetweenBaseAndTwiceBase : Prop :=
  ∀ (v : TariffClass) (k : LegKind) (c n level : Nat) (cls : CallClass) (a : AnswerMark) (now : Nat),
    1 ≤ v.step → v.minSteps ≤ 255 → v.setup ≤ 65535 → v.rate0 ≤ 65535 → v.rate1 ≤ 65535 → v.rate2 ≤ 65535 →
    v.rate3 ≤ 65535 → v.surcharge1 ≤ 255 → v.surcharge2 ≤ 255 → v.surcharge3 ≤ 255 →
    rateLeg v k c n level cls none now = ⟨k, c, n, false, 0, 0, false⟩
    ∧ ∃ d steps base u, d = min (now - a.time) 86400000
      ∧ (d = 0 → steps = v.minSteps)
      ∧ (0 < d → ∃ whole, (whole - 1) * (1000 * v.step) < d ∧ d ≤ whole * (1000 * v.step) ∧ steps = max whole v.minSteps)
      ∧ steps ≤ 86400
      ∧ base = v.setup + steps * (match a.band with | 0 => v.rate0 | 1 => v.rate1 | 2 => v.rate2 | _ => v.rate3)
      ∧ (cls = .emergency ∨ level = 0 → u = 0)
      ∧ (∀ f, cls ≠ .emergency → (level, f) ∈ [(1, v.surcharge1), (2, v.surcharge2), (3, v.surcharge3)] →
        u = (base * f + 128) / 256)
      ∧ rateLeg v k c n level cls (some a) now
          = ⟨k, c, n, true, base + u, steps, decide (86400000 < now - a.time)⟩
      ∧ u ≤ base ∧ base + u < 2 ^ 34

/-! ### Settlement -/

/-- A rated leg is added to the record of its carrier in the ACTIVE bank: an answered leg its charge to the total of its kind, its steps and one leg of its kind; an unanswered leg one unanswered leg. Each field saturates on its own and sets the flag, which never clears. Nothing else of STS changes (R136). -/
def Obligations.LegsAccumulateAndSaturate : Prop :=
  ∀ (leg : RatedLeg) (s : State), ∃ x y,
    x = (s.bank s.sts.activeBank).record leg.carrier
    ∧ y = ((accumulate leg s).bank s.sts.activeBank).record leg.carrier
    ∧ (leg.answered = true → leg.kind = .payable →
      y.payable = min (x.payable + leg.charge) (2 ^ 48 - 1) ∧ y.payableLegs = min (x.payableLegs + 1) (2 ^ 32 - 1)
      ∧ y.steps = min (x.steps + leg.steps) (2 ^ 32 - 1) ∧ y.receivable = x.receivable
      ∧ y.receivableLegs = x.receivableLegs ∧ y.unanswered = x.unanswered
      ∧ (y.saturated = true ↔ x.saturated = true ∨ 2 ^ 48 - 1 < x.payable + leg.charge
        ∨ 2 ^ 32 - 1 < x.payableLegs + 1 ∨ 2 ^ 32 - 1 < x.steps + leg.steps))
    ∧ (leg.answered = true → leg.kind = .receivable →
      y.receivable = min (x.receivable + leg.charge) (2 ^ 48 - 1)
      ∧ y.receivableLegs = min (x.receivableLegs + 1) (2 ^ 32 - 1)
      ∧ y.steps = min (x.steps + leg.steps) (2 ^ 32 - 1) ∧ y.payable = x.payable
      ∧ y.payableLegs = x.payableLegs ∧ y.unanswered = x.unanswered
      ∧ (y.saturated = true ↔ x.saturated = true ∨ 2 ^ 48 - 1 < x.receivable + leg.charge
        ∨ 2 ^ 32 - 1 < x.receivableLegs + 1 ∨ 2 ^ 32 - 1 < x.steps + leg.steps))
    ∧ (leg.answered = false → y = { x with
        unanswered := min (x.unanswered + 1) (2 ^ 32 - 1)
        saturated := x.saturated || decide (2 ^ 32 - 1 < x.unanswered + 1) })
    ∧ (∀ c, c ≠ leg.carrier → ((accumulate leg s).bank s.sts.activeBank).record c
        = (s.bank s.sts.activeBank).record c)
    ∧ ((accumulate leg s).bank s.sts.activeBank).state = (s.bank s.sts.activeBank).state
    ∧ (accumulate leg s).bank (otherBank s.sts.activeBank) = s.bank (otherBank s.sts.activeBank)
    ∧ (accumulate leg s).sts.activeBank = s.sts.activeBank
    ∧ (accumulate leg s).sts.closeDeferred = s.sts.closeDeferred
    ∧ (accumulate leg s).sts.autoClose = s.sts.autoClose
    ∧ (accumulate leg s).sts.closeDue = s.sts.closeDue
    ∧ s.SameBut [.sts] (accumulate leg s)

/-- CLOSE_PERIOD and AUTOMATIC_CLOSE over banks as R135 has them. Over an AVAILABLE other bank the banks swap: the ACTIVE bank closes now with its period and records, the other opens now with the next period and no records, the pending tariffs and bands take force, and PERIOD_CLOSED is raised. Over a COLLECTABLE one the close is deferred, with CLOSE_DEFERRED at the first deferral. The rules are R121, R137 to R139, R141 and R144. An automatic close that is not due changes nothing, which is the model's choice (log entry 3). -/
def Obligations.ClosesSwapOrDefer : Prop :=
  (∀ (c : Instr) (s u : State) (k : BankId) (p : Nat) (opened : Stamp) (swapped deferred : Reply),
    k = s.sts.activeBank → (s.bank k).state = .active p opened →
    ((∃ r, c = .closePeriod r ∧ s.inService r c = true
        ∧ swapped = ⟨.done, beBytes 1 (bankCode k) ++ beBytes 2 p ++ beBytes 1 (bankCode (otherBank k))
            ++ beBytes 2 ((p + 1) % 65536)⟩
        ∧ deferred = ⟨.deferred, beBytes 2 p⟩
        ∧ u = (if (s.bank (otherBank k)).state = .available then
            (s.raiseAll (.periodClosed k p)).deliver r c swapped
          else if s.sts.closeDeferred = true then s.deliver r c deferred
          else (s.raiseAll (.closeDeferred p)).deliver r c deferred))
      ∨ (c = .automaticClose ∧ s.sts.closeDue = true
        ∧ u = (if (s.bank (otherBank k)).state = .available then s.raiseAll (.periodClosed k p)
          else if s.sts.closeDeferred = true then s else s.raiseAll (.closeDeferred p)))) →
    ((s.bank (otherBank k)).state = .available →
      ∃ t, exec c s = .next t
        ∧ t.bank k = { s.bank k with state := .collectable p opened ⟨s.tmb.day, s.tmb.second⟩ }
        ∧ t.bank (otherBank k) = ⟨.active ((p + 1) % 65536) ⟨s.tmb.day, s.tmb.second⟩, []⟩
        ∧ t.sts.activeBank = otherBank k ∧ t.sts.closeDeferred = false ∧ t.sts.autoClose = s.sts.autoClose
        ∧ t.hru = ⟨s.hru.pendingClasses, s.hru.pendingClasses, s.hru.pendingBands, s.hru.pendingBands⟩
        ∧ (c = .automaticClose → t.sts.closeDue = false) ∧ s.SameBut [.pct, .hru, .sts] t ∧ t.pct = u.pct)
    ∧ (∀ q o' c', (s.bank (otherBank k)).state = .collectable q o' c' →
      ∃ t, exec c s = .next t ∧ t.bank k = s.bank k ∧ t.bank (otherBank k) = s.bank (otherBank k)
        ∧ t.sts.activeBank = k ∧ t.sts.closeDeferred = true ∧ t.sts.autoClose = s.sts.autoClose
        ∧ (c = .automaticClose → t.sts.closeDue = false) ∧ s.SameBut [.pct, .sts] t ∧ t.pct = u.pct))
  ∧ ∀ s : State, s.sts.closeDue = false → exec .automaticClose s = .next s

/-- SET_AUTO_CLOSE sets the setting, or sets it off, and nothing else, and refuses an unknown form (a request of the second row by log entry 6, the model's choice) or a second above 86399. RELEASE_BANK of a COLLECTABLE bank empties it; where a close is deferred it is performed in the same event, so the bank released is ACTIVE again with the next period and the other COLLECTABLE. Of any other bank it is answered WRONG_STATE (R140, R142). -/
def Obligations.BanksAreReleased : Prop :=
  (∀ (r : Requester) (s : State), (s.inService r (.setAutoCloseOff r) = true →
      ∃ t, exec (.setAutoCloseOff r) s = .next t ∧ t.sts = { s.sts with autoClose := none }
        ∧ s.SameBut [.pct, .sts] t
        ∧ t.pct = (s.deliver r (.setAutoCloseOff r) ⟨.done, [255, 255, 255]⟩).pct)
    ∧ ∀ form n, s.inService r (.setAutoCloseSecond r form n) = true →
      (form = 1 → n ≤ 86399 → ∃ t, exec (.setAutoCloseSecond r form n) s = .next t
        ∧ t.sts = { s.sts with autoClose := some n } ∧ s.SameBut [.pct, .sts] t
        ∧ t.pct = (s.deliver r (.setAutoCloseSecond r form n) ⟨.done, beBytes 3 n⟩).pct)
      ∧ (form ≠ 1 ∨ 86399 < n → exec (.setAutoCloseSecond r form n) s
        = .next (s.deliver r (.setAutoCloseSecond r form n) ⟨.badValue, []⟩)))
  ∧ ∀ (r : Requester) (n : Nat) (s : State), s.inService r (.releaseBank r n) = true → s.BankInv →
    (1 < n → exec (.releaseBank r n) s = .next (s.deliver r (.releaseBank r n) ⟨.badValue, []⟩))
    ∧ ∀ k, bankCode k = n →
      ((∀ q a b, (s.bank k).state ≠ .collectable q a b) →
        exec (.releaseBank r n) s = .next (s.deliver r (.releaseBank r n) ⟨.wrongState, []⟩))
      ∧ ∀ q a b, (s.bank k).state = .collectable q a b →
        (s.sts.closeDeferred = false → ∃ t, exec (.releaseBank r n) s = .next t
          ∧ t.bank k = ⟨.available, []⟩ ∧ t.bank (otherBank k) = s.bank (otherBank k)
          ∧ t.sts.activeBank = otherBank k ∧ t.sts.closeDeferred = false
          ∧ t.sts.autoClose = s.sts.autoClose ∧ s.SameBut [.pct, .sts] t
          ∧ t.pct = (s.deliver r (.releaseBank r n) ⟨.done, [0] ++ List.replicate 6 255⟩).pct)
        ∧ (s.sts.closeDeferred = true → ∀ p opened, (s.bank (otherBank k)).state = .active p opened →
          ∃ t, exec (.releaseBank r n) s = .next t
          ∧ t.bank k = ⟨.active ((p + 1) % 65536) ⟨s.tmb.day, s.tmb.second⟩, []⟩
          ∧ t.bank (otherBank k) = { s.bank (otherBank k) with
              state := .collectable p opened ⟨s.tmb.day, s.tmb.second⟩ }
          ∧ t.sts.activeBank = k ∧ t.sts.closeDeferred = false ∧ t.sts.autoClose = s.sts.autoClose
          ∧ t.hru = ⟨s.hru.pendingClasses, s.hru.pendingClasses, s.hru.pendingBands, s.hru.pendingBands⟩
          ∧ s.SameBut [.pct, .hru, .sts] t
          ∧ t.pct = ((s.raiseAll (.periodClosed (otherBank k) p)).deliver r (.releaseBank r n)
              ⟨.done, [1] ++ beBytes 1 (bankCode (otherBank k)) ++ beBytes 2 p ++ beBytes 1 (bankCode k)
                ++ beBytes 2 ((p + 1) % 65536)⟩).pct)

/-! ### Time -/

/-- A tick with no timed event outstanding adds 1 to the running time, which stands at its largest value, and 1 ms to the time of day, entering the next second behind millisecond 999, the next day behind second 86399 and day 0 behind day 65535; an automatic close falls due exactly when the tick enters the second that the setting names. With a guard deadline, a restriction's end, a period end, an automatic close or a link's going UP outstanding, or a request of RSE in service, no tick is taken, which the model infers from R149, R159 and R72 (log entry 5). The rules of the tick are R141, R146, R147 and R149. SET_TIME with a second up to 86399 and a millisecond up to 999 sets the time of day at once, leaves the running time, performs no close and moves no deadline, and its reply carries the time as set and the running time. Other values give BAD_VALUE with the time of day left as it was (R150, R151). -/
def Obligations.ClocksAdvanceAndAreSet : Prop :=
  (∀ s : State, s.TablesInv →
    let quiet : Prop := (∀ i x d, s.call i = some x → x.deadline = some d → s.tmb.running < d)
      ∧ (∀ n x, (s.dest n).restriction = some x → s.tmb.running < x.endTime)
      ∧ s.tmb.running < s.cmn.nextPeriodEnd ∧ s.sts.closeDue = false
      ∧ (∀ p, (s.port p).role ≠ .off → (s.port p).link = .down → (s.port p).line = .good →
        s.now < (s.port p).goodSince + 100)
      ∧ ∀ p, (s.port p).engineLoad = 0
    (quiet → s.tmb.milli ≤ 999 → s.tmb.second ≤ 86399 → s.tmb.day ≤ 65535 → ∃ t, exec .millisecondTick s = .next t
      ∧ t.tmb.running = (if s.tmb.running < 2 ^ 48 - 1 then s.tmb.running + 1 else s.tmb.running)
      ∧ (s.tmb.milli < 999 → t.tmb.milli = s.tmb.milli + 1 ∧ t.tmb.second = s.tmb.second
        ∧ t.tmb.day = s.tmb.day ∧ t.sts.closeDue = false)
      ∧ (s.tmb.milli = 999 → t.tmb.milli = 0
        ∧ (s.tmb.second < 86399 → t.tmb.second = s.tmb.second + 1 ∧ t.tmb.day = s.tmb.day)
        ∧ (s.tmb.second = 86399 → t.tmb.second = 0
          ∧ t.tmb.day = (if s.tmb.day = 65535 then 0 else s.tmb.day + 1))
        ∧ (t.sts.closeDue = true ↔ s.sts.autoClose = some t.tmb.second))
      ∧ t.sts = { s.sts with closeDue := t.sts.closeDue } ∧ s.SameBut [.sts, .tmb] t)
    ∧ (¬ quiet → exec .millisecondTick s = .next s))
  ∧ ∀ (r : Requester) (d n m : Nat) (s : State), s.inService r (.setTime r d n m) = true →
    (n ≤ 86399 → m ≤ 999 → ∃ t, exec (.setTime r d n m) s = .next t
      ∧ t.tmb = ⟨s.tmb.running, d, n, m⟩ ∧ s.SameBut [.pct, .tmb] t
      ∧ t.pct = (s.deliver r (.setTime r d n m)
          ⟨.done, beBytes 2 d ++ beBytes 3 n ++ beBytes 2 m ++ beBytes 6 s.tmb.running⟩).pct)
    ∧ (86399 < n ∨ 999 < m → exec (.setTime r d n m) s = .next (s.deliver r (.setTime r d n m) ⟨.badValue, []⟩))

/-! ### Invariants that every step keeps -/

/-- Every step keeps every port within R156, R157, R159, R160, R164 to R167, R177 and R180, the latched flags of an OFF port clear (R183), and the engine with at most one request in service (R57). That a head which passes the checks stands checked until its row serves it, where a block other than RSE owns it, so that only heads of RSE take the stage in service, is the model's choice and not R166's (log entry 14). -/
def Obligations.StepsKeepPortsAndEngine : Prop :=
  ∀ s t : State, step s = .next t →
    (s.PortsInv → t.PortsInv) ∧ (s.EngineInv → t.EngineInv)

/-- Every step keeps the clocks in their ranges, and passes over no guard deadline, no restriction's end, no period end and no link that is due to go UP (R146, R147, R149, R159). That no tick is taken while one of them is due is the model's inference (log entry 5), and the time at which a head became head is the model's own field (log entry 14). -/
def Obligations.NoDeadlineIsPassedOver : Prop :=
  ∀ s t : State, step s = .next t →
    (s.ClockInv → t.ClockInv) ∧ (s.DeadlineInv → t.DeadlineInv)

/-- Every step keeps exactly one bank ACTIVE, the index naming it, the period numbers one apart, a deferred close only behind a COLLECTABLE bank, an AVAILABLE bank empty and every amount in its range (R132, R133, R135). -/
def Obligations.StepsKeepOneBankActive : Prop :=
  ∀ s t : State, s.BankInv → step s = .next t → t.BankInv

/-- Every step keeps every agreement's offers valid and its state the one that resolution gives, or that a report has made of MATCHED (R101, R103, R106); the route lists and route sets in range, each rotation order a rearrangement of its rank's positions; and each restriction's next-admit time one interval behind its last admission (R46 to R49, R71, R74, R76). -/
def Obligations.StepsKeepAgreementsAndRoutes : Prop :=
  ∀ s t : State, step s = .next t →
    (s.AgreementInv → t.AgreementInv) ∧ (s.RouteInv → t.RouteInv) ∧ (s.RestrictionInv → t.RestrictionInv)

/-- Every step keeps the free-record queue holding each free record's index once and no live one's (R25), and every table in its one canonical form with its numbers in range: that form, and the form in which the queue is held, are the model's own choice and follow from no rule (log entry 12). -/
def Obligations.StepsKeepTablesAndQueue : Prop :=
  ∀ s t : State, s.TablesInv → s.QueueInv → s.PoolInv → step s = .next t → t.TablesInv ∧ t.QueueInv

/-- Every step keeps the circuit pool and the call records in agreement: each IDLE circuit once in its group's free list, each busy count the number of RESERVED and BUSY circuits, each held circuit held by exactly one live record, and each live record with the fields that its state asks for (R2 to R6, R24, R112, R113). -/
def Obligations.StepsKeepPoolAndCallsInAgreement : Prop :=
  ∀ s t : State, s.TablesInv → s.QueueInv → s.PoolInv → step s = .next t → t.PoolInv

/-- Every step keeps every index in 0 to 4096, every level in 0 to 3 and not above its latch, refusals within attempts, the records of UNDEFINED groups at zero, and the profiles and period codes in range (R84, R85, R89 to R92). -/
def Obligations.StepsKeepCongestionInRange : Prop :=
  ∀ s t : State, s.TablesInv → s.PoolInv → s.CongestionInv → step s = .next t → t.CongestionInv

/-- The state after reset, with the roles and the values that the model chose for it (log entries 1, 2 and 14), meets every invariant above, the canonical form of its tables, which is the model's own (log entry 12), among them. -/
def Obligations.ResetMeetsEveryInvariant : Prop :=
  State.reset.PortsInv ∧ State.reset.EngineInv ∧ State.reset.ClockInv ∧ State.reset.DeadlineInv
    ∧ State.reset.BankInv ∧ State.reset.AgreementInv ∧ State.reset.RouteInv ∧ State.reset.RestrictionInv
    ∧ State.reset.TablesInv ∧ State.reset.QueueInv ∧ State.reset.PoolInv ∧ State.reset.CongestionInv
end

