-- ==== Sys2Proof/Laws/Table.lean ====
section
/-! SUPPORT. Laws of the numbered tables: reading after writing, and the canonical form that every operation keeps. -/

namespace Sys2Proof.Machine

variable {α : Type}

@[simp] theorem Table.get_nil (d : α) (k : Nat) : Table.get d [] k = d := rfl

theorem Table.get_cons (d : α) (j : Nat) (v : α) (t : Table α) (k : Nat) :
    Table.get d ((j, v) :: t) k = if j = k then v else Table.get d t k := rfl

/-- A number that no entry carries reads as the default. -/
theorem Table.get_eq_default (d : α) (t : Table α) (k : Nat) (h : ∀ e ∈ t, e.1 ≠ k) :
    Table.get d t k = d := by
  induction t with
  | nil => rfl
  | cons e t ih =>
    rw [Table.get_cons, if_neg (h e (by simp))]
    exact ih fun e' he' => h e' (by simp [he'])

/-- What a table reads as is the default or one of its entries. -/
theorem Table.get_mem_or_default (d : α) (t : Table α) (k : Nat) :
    Table.get d t k = d ∨ (k, Table.get d t k) ∈ t := by
  induction t with
  | nil => exact .inl rfl
  | cons e t ih =>
    obtain ⟨j, v⟩ := e
    rw [Table.get_cons]
    by_cases h : j = k
    · simp [h]
    · simp only [if_neg h]
      exact ih.imp id fun h' => by simp [h']

/-- In the canonical form, every entry is what its number reads as. -/
theorem Table.get_of_mem (d : α) (t : Table α) (h : t.Pairwise fun a b => a.1 < b.1) (k : Nat) (v : α)
    (hm : (k, v) ∈ t) : Table.get d t k = v := by
  induction t with
  | nil => simp at hm
  | cons e t ih =>
    obtain ⟨j, w⟩ := e
    rw [List.pairwise_cons] at h
    rw [Table.get_cons]
    rcases List.mem_cons.1 hm with hm | hm
    · obtain ⟨rfl, rfl⟩ := Prod.mk.inj hm
      simp
    · have := h.1 _ hm
      simp only at this
      rw [if_neg (by omega)]
      exact ih h.2 hm

/-- Filtering by number keeps what the kept numbers read as and clears the others. -/
theorem Table.get_filter (d : α) (t : Table α) (p : Nat → Bool) (k : Nat) :
    Table.get d (t.filter fun e => p e.1) k = if p k then Table.get d t k else d := by
  induction t with
  | nil => simp
  | cons e t ih =>
    obtain ⟨j, v⟩ := e
    rw [List.filter_cons]
    by_cases hj : p j = true
    · rw [if_pos hj, Table.get_cons, Table.get_cons, ih]
      by_cases h : j = k
      · subst h; simp [hj]
      · simp [h]
    · rw [if_neg hj, ih, Table.get_cons]
      by_cases h : j = k
      · subst h; simp [hj]
      · simp [h]

theorem Table.get_insert (d : α) (k : Nat) (v : α) (t : Table α) (h : ∀ e ∈ t, e.1 ≠ k) (k' : Nat) :
    Table.get d (Table.insert k v t) k' = if k' = k then v else Table.get d t k' := by
  induction t with
  | nil => simp [Table.insert, Table.get_cons, eq_comm]
  | cons e t ih =>
    obtain ⟨j, w⟩ := e
    have hj : j ≠ k := h (j, w) (by simp)
    rw [Table.insert]
    split
    · rw [Table.get_cons]
      simp only [eq_comm]
    · rw [Table.get_cons, ih fun e he => h e (by simp [he]), Table.get_cons]
      by_cases h1 : j = k'
      · subst h1; simp [hj]
      · simp [h1]

/-- Read after write. -/
theorem Table.get_set [DecidableEq α] (d : α) (t : Table α) (k : Nat) (v : α) (k' : Nat) :
    Table.get d (Table.set d t k v) k' = if k' = k then v else Table.get d t k' := by
  have hf := Table.get_filter d t (fun j => decide (j ≠ k)) k'
  unfold Table.set
  simp only
  split
  · rename_i hv
    subst hv
    rw [hf]
    by_cases h : k' = k <;> simp [h]
  · rw [Table.get_insert d k v _ (by simp), hf]
    by_cases h : k' = k <;> simp [h]

theorem Table.get_clearRange (d : α) (t : Table α) (lo n k : Nat) :
    Table.get d (Table.clearRange t lo n) k = if lo ≤ k ∧ k < lo + n then d else Table.get d t k := by
  have := Table.get_filter d t (fun j => decide (j < lo) || decide (lo + n ≤ j)) k
  unfold Table.clearRange
  rw [this]
  by_cases h : lo ≤ k ∧ k < lo + n
  · rw [if_pos h, if_neg (by simp; omega)]
  · rw [if_neg h, if_pos (by simp; omega)]

theorem Table.get_map (d : α) (t : Table α) (f : α → α) (hd : f d = d) (k : Nat) :
    Table.get d (t.map fun e => (e.1, f e.2)) k = f (Table.get d t k) := by
  induction t with
  | nil => simp [hd]
  | cons e t ih =>
    obtain ⟨j, v⟩ := e
    simp only [List.map_cons, Table.get_cons, ih]
    split <;> rfl

/-! ### The canonical form -/

theorem Table.wf_iff [DecidableEq α] (d : α) (last : Nat) (t : Table α) :
    Table.wf d last t = true ↔
      (t.Pairwise fun a b => a.1 < b.1) ∧ ∀ e ∈ t, e.1 ≤ last ∧ e.2 ≠ d := by
  simp [Table.wf]

theorem Table.wf_nil [DecidableEq α] (d : α) (last : Nat) : Table.wf d last [] = true := by
  simp [Table.wf]

theorem Table.wf_filter [DecidableEq α] (d : α) (last : Nat) (t : Table α) (p : Nat × α → Bool)
    (h : Table.wf d last t = true) : Table.wf d last (t.filter p) = true := by
  rw [Table.wf_iff] at h ⊢
  exact ⟨h.1.filter _, fun e he => h.2 e (List.mem_of_mem_filter he)⟩

theorem Table.mem_insert (k : Nat) (v : α) (t : Table α) (e : Nat × α)
    (he : e ∈ Table.insert k v t) : e = (k, v) ∨ e ∈ t := by
  induction t with
  | nil => simpa [Table.insert] using he
  | cons a t ih =>
    obtain ⟨j, w⟩ := a
    rw [Table.insert] at he
    split at he
    · simpa using he
    · rcases List.mem_cons.1 he with he | he
      · exact .inr (by simp [he])
      · exact (ih he).imp id fun h => by simp [h]

theorem Table.pairwise_insert (k : Nat) (v : α) (t : Table α)
    (h : t.Pairwise fun a b => a.1 < b.1) (hk : ∀ e ∈ t, e.1 ≠ k) :
    (Table.insert k v t).Pairwise fun a b => a.1 < b.1 := by
  induction t with
  | nil => simp [Table.insert]
  | cons a t ih =>
    obtain ⟨j, w⟩ := a
    rw [List.pairwise_cons] at h
    have hj : j ≠ k := hk (j, w) (by simp)
    rw [Table.insert]
    split
    · rename_i hlt
      rw [List.pairwise_cons, List.pairwise_cons]
      refine ⟨fun e he => ?_, h⟩
      rcases List.mem_cons.1 he with he | he
      · simpa [he] using hlt
      · have := h.1 e he
        simp only at this ⊢
        omega
    · rw [List.pairwise_cons]
      refine ⟨fun e he => ?_, ih h.2 fun e he => hk e (by simp [he])⟩
      rcases Table.mem_insert k v t e he with he | he
      · subst he; simp only; omega
      · exact h.1 e he

/-- Writing keeps the canonical form. -/
theorem Table.wf_set [DecidableEq α] (d : α) (last : Nat) (t : Table α) (k : Nat) (v : α)
    (h : Table.wf d last t = true) (hk : k ≤ last) : Table.wf d last (Table.set d t k v) = true := by
  have hf := Table.wf_filter d last t (fun e => decide (e.1 ≠ k)) h
  unfold Table.set
  simp only
  split
  · exact hf
  · rename_i hv
    rw [Table.wf_iff] at hf ⊢
    refine ⟨Table.pairwise_insert k v _ hf.1 (by simp), fun e he => ?_⟩
    rcases Table.mem_insert k v _ e he with he | he
    · subst he; exact ⟨hk, hv⟩
    · exact hf.2 e he

theorem Table.wf_clearRange [DecidableEq α] (d : α) (last : Nat) (t : Table α) (lo n : Nat)
    (h : Table.wf d last t = true) : Table.wf d last (Table.clearRange t lo n) = true :=
  Table.wf_filter d last t _ h

/-- Changing every entry to a value other than the default keeps the canonical form. -/
theorem Table.wf_map [DecidableEq α] (d : α) (last : Nat) (t : Table α) (f : α → α)
    (hf : ∀ v, v ≠ d → f v ≠ d) (h : Table.wf d last t = true) :
    Table.wf d last (t.map fun e => (e.1, f e.2)) = true := by
  rw [Table.wf_iff] at h ⊢
  refine ⟨by rw [List.pairwise_map]; exact h.1, fun e he => ?_⟩
  obtain ⟨a, ha, rfl⟩ := List.mem_map.1 he
  exact ⟨(h.2 a ha).1, hf _ (h.2 a ha).2⟩

/-- Two tables in canonical form that read alike are the same table. -/
theorem Table.ext_of_wf [DecidableEq α] (d : α) (last : Nat) (t u : Table α)
    (ht : Table.wf d last t = true) (hu : Table.wf d last u = true)
    (h : ∀ k, Table.get d t k = Table.get d u k) : t = u := by
  rw [Table.wf_iff] at ht hu
  induction t generalizing u with
  | nil =>
    cases u with
    | nil => rfl
    | cons e u =>
      have := Table.get_of_mem d (e :: u) hu.1 e.1 e.2 (by simp)
      rw [← h] at this
      exact absurd this.symm (hu.2 e (by simp)).2
  | cons a t ih =>
    cases u with
    | nil =>
      have := Table.get_of_mem d (a :: t) ht.1 a.1 a.2 (by simp)
      rw [h] at this
      exact absurd this.symm (ht.2 a (by simp)).2
    | cons e u =>
      have ha := Table.get_of_mem d (a :: t) ht.1 a.1 a.2 (by simp)
      have he := Table.get_of_mem d (e :: u) hu.1 e.1 e.2 (by simp)
      have h1 := List.pairwise_cons.1 ht.1
      have h2 := List.pairwise_cons.1 hu.1
      have hkey : a.1 = e.1 := by
        rcases Nat.lt_trichotomy a.1 e.1 with hlt | heq | hlt
        · have : Table.get d (e :: u) a.1 = d := by
            apply Table.get_eq_default
            intro x hx
            rcases List.mem_cons.1 hx with rfl | hx
            · omega
            · have := h2.1 x hx; omega
          rw [h] at ha
          exact absurd (ha.symm.trans this) (ht.2 a (by simp)).2
        · exact heq
        · have : Table.get d (a :: t) e.1 = d := by
            apply Table.get_eq_default
            intro x hx
            rcases List.mem_cons.1 hx with rfl | hx
            · omega
            · have := h1.1 x hx; omega
          rw [← h] at he
          exact absurd (he.symm.trans this) (hu.2 e (by simp)).2
      have hval : a.2 = e.2 := by rw [← ha, ← he, h, hkey]
      have hae : a = e := Prod.ext hkey hval
      subst hae
      congr 1
      refine ih u ⟨h1.2, fun x hx => ht.2 x (by simp [hx])⟩ ⟨h2.2, fun x hx => hu.2 x (by simp [hx])⟩ fun k => ?_
      by_cases hk : a.1 = k
      · subst hk
        rw [Table.get_eq_default d t a.1 fun x hx => by have := h1.1 x hx; omega,
          Table.get_eq_default d u a.1 fun x hx => by have := h2.1 x hx; omega]
      · have := h k
        obtain ⟨j, v⟩ := a
        rwa [Table.get_cons, Table.get_cons, if_neg hk, if_neg hk] at this

end Sys2Proof.Machine
end

