-- ==== Sys2Proof/Laws/Check.lean ====
section
/-! SUPPORT. Finite checks of a state that is written out: each is a Bool over the listed entries of its tables, and implies the invariant of `Safety` that quantifies over every number. -/

namespace Sys2Proof.Machine

/-! ### Tables -/

/-- The canonical form of every table, checked over the listed entries. -/
def tablesCheck (s : State) : Bool :=
  Table.wf none Config.lastGroup s.cpl.groups && Table.wf Circuit.idle Config.lastCircuit s.cpl.circuits
    && Table.wf none (Config.callRecords - 1) s.crt.calls && Table.wf 0 (Config.callRecords - 1) s.crt.gens
    && Table.wf Dest.reset Config.lastDest s.rse.dests
    && s.rse.dests.all (fun e => Table.wf [] 7 e.2.orders)
    && Table.wf [] Config.lastSet s.rse.sets && Table.wf CongestionRecord.zero Config.lastGroup s.cmn.records
    && Table.wf resetProfile 7 s.cmn.inForce && Table.wf resetProfile 7 s.cmn.staged
    && Table.wf Agreement.reset Config.lastCarrier s.cau.records
    && Table.wf resetTariff (tariffKey Config.lastCarrier 3) s.hru.inForce
    && Table.wf resetTariff (tariffKey Config.lastCarrier 3) s.hru.pendingClasses
    && Table.wf SettlementRecord.zero Config.lastCarrier s.sts.bankA.records
    && Table.wf SettlementRecord.zero Config.lastCarrier s.sts.bankB.records

theorem tablesInv_of_check (s : State) (h : tablesCheck s = true) : s.TablesInv := by
  simp only [tablesCheck, Bool.and_eq_true, List.all_eq_true] at h
  obtain ⟨⟨⟨⟨⟨⟨⟨⟨⟨⟨⟨⟨⟨⟨h1, h2⟩, h3⟩, h4⟩, h5⟩, h6⟩, h7⟩, h8⟩, h9⟩, h10⟩, h11⟩, h12⟩, h13⟩, h14⟩, h15⟩ := h
  refine ⟨h1, h2, h3, h4, h5, fun n => ?_, h7, h8, h9, h10, h11, h12, h13, h14, h15⟩
  rcases Table.get_mem_or_default Dest.reset s.rse.dests n with hd | hm
  · rw [show s.dest n = Dest.reset from hd]
    exact Table.wf_nil (α := List Nat) [] 7
  · exact h6 _ hm

/-- A listed entry of a canonical table of optional values is what its number reads as. -/
theorem get_of_mem_of_wf {α : Type} [DecidableEq α] (last : Nat) (t : Table (Option α))
    (h : Table.wf none last t = true) (k : Nat) (v : Option α) (hm : (k, v) ∈ t) :
    Table.get none t k = v := by
  rw [Table.wf_iff] at h
  exact Table.get_of_mem none t h.1 k v hm

/-- A value that a number reads as is listed. -/
theorem mem_of_get {α : Type} (t : Table (Option α)) (k : Nat) (v : α)
    (h : Table.get none t k = some v) : (k, some v) ∈ t := by
  rcases Table.get_mem_or_default none t k with hd | hm
  · rw [hd] at h; cases h
  · rwa [h] at hm

/-! ### The free-record queue -/

/-- The records made so far are those of the indices below `fresh`, all of them live, and none has come back. -/
def queueCheck (s : State) : Bool :=
  decide (s.crt.queue.returned = []) && decide (s.crt.queue.fresh ≤ Config.callRecords)
    && decide (s.crt.calls.map (·.1) = List.range s.crt.queue.fresh) && s.crt.calls.all (fun e => e.2.isSome)
    && s.crt.gens.all (fun e => decide (e.2 < Config.generations))

theorem queueInv_of_check (s : State) (h : queueCheck s = true) (ht : s.TablesInv) : s.QueueInv := by
  simp only [queueCheck, Bool.and_eq_true, decide_eq_true_eq, List.all_eq_true] at h
  obtain ⟨⟨⟨⟨h1, h2⟩, h3⟩, h4⟩, h5⟩ := h
  refine ⟨?_, fun i => ?_, fun i => ?_⟩
  · simp only [queueList, h1, List.append_nil]
    exact List.nodup_range'
  · simp only [queueList, h1, List.append_nil, List.mem_range'_1]
    have key : s.call i = none ↔ ¬ i < s.crt.queue.fresh := by
      rw [← List.mem_range, ← h3, List.mem_map]
      constructor
      · rintro hn ⟨e, he, rfl⟩
        have := get_of_mem_of_wf _ _ ht.calls e.1 e.2 he
        have h4' := h4 e he
        rw [State.call, this] at hn
        simp [hn] at h4'
      · intro hn
        rcases Table.get_mem_or_default none s.crt.calls i with hd | hm
        · exact hd
        · exact absurd ⟨_, hm, rfl⟩ hn
    rw [key]
    omega
  · rcases Table.get_mem_or_default 0 s.crt.gens i with hd | hm
    · simp only [State.gen, hd]; decide
    · exact h5 _ hm

/-! ### The circuit pool and the call records -/

/-- `State.GroupInv`, checked over the circuits of the range. -/
def groupCheck (s : State) (r : Group) : Bool :=
  decide (1 ≤ r.count) && decide (r.count ≤ Config.maxGroupCircuits)
    && decide (r.first + r.count ≤ Config.lastCircuit + 1) && decide (r.carrier ≤ Config.lastCarrier)
    && decide (r.reserve ≤ r.count) && decide (r.profile ≤ 7) && decide r.freeList.Nodup
    && r.freeList.all (fun c => groupHolds c r)
    && (circuitRange r.first r.count).all (fun c =>
      decide (c ∈ r.freeList ↔ (s.circuit c).state = .idle))
    && decide (r.busy = (circuitRange r.first r.count).countP fun c => (s.circuit c).held)
    && decide (r.state = .blocked → r.busy = 0) && decide (r.state = .draining → 0 < r.busy)

theorem groupInv_of_check (s : State) (r : Group) (h : groupCheck s r = true) : s.GroupInv r := by
  simp only [groupCheck, Bool.and_eq_true, decide_eq_true_eq, List.all_eq_true] at h
  obtain ⟨⟨⟨⟨⟨⟨⟨⟨⟨⟨⟨h1, h2⟩, h3⟩, h4⟩, h5⟩, h6⟩, h7⟩, h8⟩, h9⟩, h10⟩, h11⟩, h12⟩ := h
  refine ⟨⟨⟨h1, h2⟩, h3, h4, h5, h6⟩, h7, fun c => ?_, h10, h11, h12⟩
  constructor
  · intro hc
    have hh := h8 c hc
    refine ⟨hh, (h9 c ?_).1 hc⟩
    simp only [groupHolds, Bool.and_eq_true, decide_eq_true_eq] at hh
    simp only [circuitRange, List.mem_range'_1]
    exact hh
  · rintro ⟨hh, hi⟩
    refine (h9 c ?_).2 hi
    simp only [groupHolds, Bool.and_eq_true, decide_eq_true_eq] at hh
    simp only [circuitRange, List.mem_range'_1]
    exact hh

/-- Whether a group that is listed holds a circuit. -/
def holderListed (s : State) (g c : Nat) : Bool :=
  (s.group g).any (groupHolds c)

theorem holder_of_listed (s : State) (g c : Nat) (h : holderListed s g c = true) :
    ∃ r, s.group g = some r ∧ groupHolds c r = true := by
  simpa only [holderListed, Option.any_eq_true] using h

/-- `State.CallInv`, as a check. -/
def callCheck (s : State) (r : CallRecord) : Bool :=
  decide (r.dest ≤ Config.lastDest) && decide (r.outbound = none ↔ r.state = .displaced)
    && decide (r.deadline = none ↔ r.state = .seized ∨ r.state = .answered)
    && decide (r.answer = none ↔ r.state ≠ .answered) && decide r.circuits.Nodup
    && r.outbound.all (fun o => holderListed s o.group o.circuit
      && decide ((s.circuit o.circuit).state = if r.state = .reserved then .reserved else .busy)
      && decide (o.payable = none ↔ s.carrierOf o.group = 0))
    && r.inbound.all (fun b => holderListed s b.group b.circuit
      && decide ((s.circuit b.circuit).state = .busy)
      && decide (b.receivable = none ↔ s.carrierOf b.group = 0))

theorem callInv_of_check (s : State) (r : CallRecord) (h : callCheck s r = true) : s.CallInv r := by
  simp only [callCheck, Bool.and_eq_true, decide_eq_true_eq, Option.all_eq_true] at h
  obtain ⟨⟨⟨⟨⟨⟨h1, h2⟩, h3⟩, h4⟩, h5⟩, h6⟩, h7⟩ := h
  exact ⟨⟨h1, h2, h3, h4⟩, h5,
    fun o ho => ⟨holder_of_listed _ _ _ (h6 o ho).1.1, (h6 o ho).1.2, (h6 o ho).2⟩,
    fun b hb => ⟨holder_of_listed _ _ _ (h7 b hb).1.1, (h7 b hb).1.2, (h7 b hb).2⟩⟩

/-- Whether two groups' ranges lie apart. -/
def rangesApart (r r' : Group) : Bool :=
  decide (r.first + r.count ≤ r'.first) || decide (r'.first + r'.count ≤ r.first)

/-- `State.PoolInv`, checked over the listed groups, circuits and calls. -/
def poolCheck (s : State) : Bool :=
  s.cpl.groups.all (fun e => e.2.all (groupCheck s))
    && s.cpl.groups.all (fun e => s.cpl.groups.all fun e' => decide (e.1 = e'.1)
      || e.2.all fun r => e'.2.all fun r' => rangesApart r r')
    && s.cpl.circuits.all (fun e => s.cpl.groups.any fun g => holderListed s g.1 e.1)
    && s.cpl.circuits.all (fun e => !e.2.mark || e.2.held)
    && s.crt.calls.all (fun e => e.2.all (callCheck s))
    && s.cpl.circuits.all (fun e => !e.2.held
      || s.crt.calls.any fun i => (s.call i.1).any fun r => decide (e.1 ∈ r.circuits))
    && s.crt.calls.all (fun e => s.crt.calls.all fun e' => decide (e.1 = e'.1)
      || e.2.all fun r => e'.2.all fun r' => r.circuits.all fun c => decide (c ∉ r'.circuits))

theorem circuit_listed (s : State) (c : Nat) (h : s.circuit c ≠ Circuit.idle) :
    (c, s.circuit c) ∈ s.cpl.circuits := by
  rcases Table.get_mem_or_default Circuit.idle s.cpl.circuits c with hd | hm
  · exact absurd hd h
  · exact hm

theorem poolInv_of_check (s : State) (h : poolCheck s = true) : s.PoolInv := by
  simp only [poolCheck, Bool.and_eq_true, List.all_eq_true, Bool.or_eq_true, decide_eq_true_eq,
    Option.all_eq_true, List.any_eq_true, Option.any_eq_true, Bool.not_eq_true'] at h
  obtain ⟨⟨⟨⟨⟨⟨h1, h2⟩, h3⟩, h4⟩, h5⟩, h6⟩, h7⟩ := h
  refine ⟨fun g r hg => groupInv_of_check s r (h1 _ (mem_of_get _ _ _ hg) r rfl),
    fun g r g' r' c hg hg' hc hc' => ?_, fun c hc => ?_, fun c hc => ?_,
    fun i r hi => callInv_of_check s r (h5 _ (mem_of_get _ _ _ hi) r rfl), fun c hc => ?_,
    fun i r j r' c hi hj hc hc' => ?_⟩
  · rcases h2 _ (mem_of_get _ _ _ hg) _ (mem_of_get _ _ _ hg') with he | ha
    · exact he
    · have := ha r rfl r' rfl
      simp only [rangesApart, Bool.or_eq_true, decide_eq_true_eq] at this
      simp only [groupHolds, Bool.and_eq_true, decide_eq_true_eq] at hc hc'
      omega
  · obtain ⟨e, -, he⟩ := h3 _ (circuit_listed s c hc)
    obtain ⟨r, hr⟩ := holder_of_listed _ _ _ he
    exact ⟨e.1, r, hr⟩
  · by_cases hi : s.circuit c = Circuit.idle
    · rw [hi] at hc; cases hc
    · rcases h4 _ (circuit_listed s c hi) with hm | hh
      · rw [hc] at hm; cases hm
      · exact hh
  · have hi : s.circuit c ≠ Circuit.idle := fun hi => by rw [hi] at hc; cases hc
    rcases h6 _ (circuit_listed s c hi) with hh | ⟨e, -, r, hr, hm⟩
    · rw [hc] at hh; cases hh
    · exact ⟨e.1, r, hr, hm⟩
  · rcases h7 _ (mem_of_get _ _ _ hi) _ (mem_of_get _ _ _ hj) with he | ha
    · exact he
    · exact absurd hc' (ha r rfl r' rfl c hc)

end Sys2Proof.Machine
end

