-- ==== Sys2Proof/Laws/PerInstr.lean ====
section
/-! SUPPORT. A statement about every command as syntax: a command has a requester exactly when some request asks for it, and the kind of that request is one of the catalogue (R169). -/

namespace Sys2Proof.Laws.KindListed

open Sys2Proof.Machine

/-- A command has a requester exactly when a request asks for it. -/
def Statement (i : Instr) : Prop := i.requester?.isSome = (bodyOf i).isSome

theorem powerOnReset (pins : RolePins) : Statement (.powerOnReset pins) := rfl
theorem millisecondTick : Statement (.millisecondTick) := rfl
theorem lineIndicationLost (p : PortId) : Statement (.lineIndicationLost p) := rfl
theorem lineIndicationGood (p : PortId) : Statement (.lineIndicationGood p) := rfl
theorem linkUp (p : PortId) : Statement (.linkUp p) := rfl
theorem frameArrival (p : PortId) (bytes : List Byte) (stopFault : Bool) : Statement (.frameArrival p bytes stopFault) := rfl
theorem engineGrant : Statement (.engineGrant) := rfl
theorem replySent (p : PortId) : Statement (.replySent p) := rfl
theorem route (r : Requester) (dest cls : Nat) (inbound : Option Nat) : Statement (.route r dest cls inbound) := rfl
theorem confirm (r : Requester) (index gen : Nat) : Statement (.confirm r index gen) := rfl
theorem answer (r : Requester) (index gen : Nat) : Statement (.answer r index gen) := rfl
theorem release (r : Requester) (index gen : Nat) : Statement (.release r index gen) := rfl
theorem reroute (r : Requester) (index gen : Nat) : Statement (.reroute r index gen) := rfl
theorem queryCall (r : Requester) (index gen : Nat) : Statement (.queryCall r index gen) := rfl
theorem guardExpiry (index : Nat) : Statement (.guardExpiry index) := rfl
theorem setGuard (r : Requester) (seconds : Nat) : Statement (.setGuard r seconds) := rfl
theorem adoptPort (r : Requester) (fromPort toPort : Nat) : Statement (.adoptPort r fromPort toPort) := rfl
theorem exchangeRestart (r : Requester) : Statement (.exchangeRestart r) := rfl
theorem defineGroupDefine (r : Requester) (group : Nat) (arg : GroupArg) : Statement (.defineGroupDefine r group arg) := rfl
theorem defineGroupRemove (r : Requester) (group form : Nat) : Statement (.defineGroupRemove r group form) := rfl
theorem setGroupStateBlock (r : Requester) (group : Nat) : Statement (.setGroupStateBlock r group) := rfl
theorem setGroupStateUnblock (r : Requester) (group form : Nat) : Statement (.setGroupStateUnblock r group form) := rfl
theorem setReserve (r : Requester) (group reserve : Nat) : Statement (.setReserve r group reserve) := rfl
theorem circuitMaintOut (r : Requester) (circuit : Nat) : Statement (.circuitMaintOut r circuit) := rfl
theorem circuitMaintReturn (r : Requester) (circuit form : Nat) : Statement (.circuitMaintReturn r circuit form) := rfl
theorem readGroupSummary (r : Requester) (group form : Nat) : Statement (.readGroupSummary r group form) := rfl
theorem readGroupCircuit (r : Requester) (group start n : Nat) : Statement (.readGroupCircuit r group start n) := rfl
theorem readGroupFreeList (r : Requester) (group start n : Nat) : Statement (.readGroupFreeList r group start n) := rfl
theorem writeDest (r : Requester) (dest : Nat) (rotate : Byte) (choices : List ChoiceArg) : Statement (.writeDest r dest rotate choices) := rfl
theorem writeRouteSet (r : Requester) (set : Nat) (entries : List SetEntryArg) : Statement (.writeRouteSet r set entries) := rfl
theorem maskChoice (r : Requester) (dest position mask : Nat) : Statement (.maskChoice r dest position mask) := rfl
theorem setFirst (r : Requester) (dest position : Nat) : Statement (.setFirst r dest position) := rfl
theorem readDestDestination (r : Requester) (dest : Nat) : Statement (.readDestDestination r dest) := rfl
theorem readDestRouteSet (r : Requester) (form set : Nat) : Statement (.readDestRouteSet r form set) := rfl
theorem farCongestion (r : Requester) (dest gap duration : Nat) : Statement (.farCongestion r dest gap duration) := rfl
theorem farClear (r : Requester) (dest : Nat) : Statement (.farClear r dest) := rfl
theorem gapExpiry (dest : Nat) : Statement (.gapExpiry dest) := rfl
theorem restrictionEnd (dest : Nat) : Statement (.restrictionEnd dest) := rfl
theorem periodEnd : Statement (.periodEnd) := rfl
theorem writeProfile (r : Requester) (profile : Nat) (arg : Profile) : Statement (.writeProfile r profile arg) := rfl
theorem setPeriod (r : Requester) (code : Nat) : Statement (.setPeriod r code) := rfl
theorem readCongestionGroup (r : Requester) (first count : Nat) : Statement (.readCongestionGroup r first count) := rfl
theorem readCongestionProfile (r : Requester) (profile : Nat) : Statement (.readCongestionProfile r profile) := rfl
theorem readCongestionPeriod (r : Requester) (form : Nat) : Statement (.readCongestionPeriod r form) := rfl
theorem writeLocalOffer (r : Requester) (carrier : Nat) (slots : List Nat) : Statement (.writeLocalOffer r carrier slots) := rfl
theorem writeCarrierOffer (r : Requester) (carrier : Nat) (slots : List Nat) : Statement (.writeCarrierOffer r carrier slots) := rfl
theorem confirmAgreement (r : Requester) (carrier slot : Nat) : Statement (.confirmAgreement r carrier slot) := rfl
theorem withdrawAgreement (r : Requester) (carrier : Nat) : Statement (.withdrawAgreement r carrier) := rfl
theorem readAgreement (r : Requester) (first count : Nat) : Statement (.readAgreement r first count) := rfl
theorem writeTariff (r : Requester) (carrier slot : Nat) (arg : TariffClass) : Statement (.writeTariff r carrier slot arg) := rfl
theorem writeBands (r : Requester) (points : List SwitchPoint) : Statement (.writeBands r points) := rfl
theorem readTariffClass (r : Requester) (copy carrier slot : Nat) : Statement (.readTariffClass r copy carrier slot) := rfl
theorem readTariffBand (r : Requester) (form copy : Nat) : Statement (.readTariffBand r form copy) := rfl
theorem closePeriod (r : Requester) : Statement (.closePeriod r) := rfl
theorem automaticClose : Statement (.automaticClose) := rfl
theorem setAutoCloseOff (r : Requester) : Statement (.setAutoCloseOff r) := rfl
theorem setAutoCloseSecond (r : Requester) (form second : Nat) : Statement (.setAutoCloseSecond r form second) := rfl
theorem readBank (r : Requester) (bank first count : Nat) : Statement (.readBank r bank first count) := rfl
theorem releaseBank (r : Requester) (bank : Nat) : Statement (.releaseBank r bank) := rfl
theorem setTime (r : Requester) (day second milli : Nat) : Statement (.setTime r day second milli) := rfl
theorem readTime (r : Requester) : Statement (.readTime r) := rfl
theorem takeNotices (r : Requester) : Statement (.takeNotices r) := rfl
theorem setNoticeMask (r : Requester) (mask : Byte) : Statement (.setNoticeMask r mask) := rfl
theorem portStatus (r : Requester) (port : Nat) : Statement (.portStatus r port) := rfl
theorem identify (r : Requester) : Statement (.identify r) := rfl

end Sys2Proof.Laws.KindListed
end

