-- ==== Sys2Proof/Laws/State.lean ====
section
/-! SUPPORT. What each named update of the state leaves as it was, one lemma for each field and each accessor, and what an accessor reads after the update of its own table. -/

namespace Sys2Proof.Machine

/-! ### `State.setPort` -/

@[simp] theorem State.setPort_cpl (s : State) (p : PortId) (q : Port) : (s.setPort p q).cpl = s.cpl := rfl
@[simp] theorem State.setPort_crt (s : State) (p : PortId) (q : Port) : (s.setPort p q).crt = s.crt := rfl
@[simp] theorem State.setPort_rse (s : State) (p : PortId) (q : Port) : (s.setPort p q).rse = s.rse := rfl
@[simp] theorem State.setPort_cmn (s : State) (p : PortId) (q : Port) : (s.setPort p q).cmn = s.cmn := rfl
@[simp] theorem State.setPort_cau (s : State) (p : PortId) (q : Port) : (s.setPort p q).cau = s.cau := rfl
@[simp] theorem State.setPort_hru (s : State) (p : PortId) (q : Port) : (s.setPort p q).hru = s.hru := rfl
@[simp] theorem State.setPort_sts (s : State) (p : PortId) (q : Port) : (s.setPort p q).sts = s.sts := rfl
@[simp] theorem State.setPort_tmb (s : State) (p : PortId) (q : Port) : (s.setPort p q).tmb = s.tmb := rfl
@[simp] theorem State.setPort_pending (s : State) (p : PortId) (q : Port) : (s.setPort p q).pending = s.pending := rfl
@[simp] theorem State.setPort_group (s : State) (p : PortId) (q : Port) (g' : Nat) :
    (s.setPort p q).group g' = s.group g' := rfl
@[simp] theorem State.setPort_circuit (s : State) (p : PortId) (q : Port) (c' : Nat) :
    (s.setPort p q).circuit c' = s.circuit c' := rfl
@[simp] theorem State.setPort_call (s : State) (p : PortId) (q : Port) (i' : Nat) :
    (s.setPort p q).call i' = s.call i' := rfl
@[simp] theorem State.setPort_gen (s : State) (p : PortId) (q : Port) (i' : Nat) :
    (s.setPort p q).gen i' = s.gen i' := rfl
@[simp] theorem State.setPort_dest (s : State) (p : PortId) (q : Port) (d' : Nat) :
    (s.setPort p q).dest d' = s.dest d' := rfl
@[simp] theorem State.setPort_routeSet (s : State) (p : PortId) (q : Port) (n' : Nat) :
    (s.setPort p q).routeSet n' = s.routeSet n' := rfl
@[simp] theorem State.setPort_congestion (s : State) (p : PortId) (q : Port) (g' : Nat) :
    (s.setPort p q).congestion g' = s.congestion g' := rfl
@[simp] theorem State.setPort_agreement (s : State) (p : PortId) (q : Port) (c' : Nat) :
    (s.setPort p q).agreement c' = s.agreement c' := rfl
@[simp] theorem State.setPort_tariff (s : State) (p : PortId) (q : Port) (c' : Nat) (n' : Nat) :
    (s.setPort p q).tariff c' n' = s.tariff c' n' := rfl
@[simp] theorem State.setPort_pendingTariff (s : State) (p : PortId) (q : Port) (c' : Nat) (n' : Nat) :
    (s.setPort p q).pendingTariff c' n' = s.pendingTariff c' n' := rfl
@[simp] theorem State.setPort_bank (s : State) (p : PortId) (q : Port) (k' : BankId) :
    (s.setPort p q).bank k' = s.bank k' := rfl
@[simp] theorem State.setPort_now (s : State) (p : PortId) (q : Port) :
    (s.setPort p q).now = s.now := rfl
@[simp] theorem State.setPort_profile (s : State) (p : PortId) (q : Port) (n' : Nat) :
    (s.setPort p q).profile n' = s.profile n' := rfl
@[simp] theorem State.setPort_stagedProfile (s : State) (p : PortId) (q : Port) (n' : Nat) :
    (s.setPort p q).stagedProfile n' = s.stagedProfile n' := rfl

/-! ### `State.mapPorts` -/

@[simp] theorem State.mapPorts_cpl (s : State) (f : Port → Port) : (s.mapPorts f).cpl = s.cpl := rfl
@[simp] theorem State.mapPorts_crt (s : State) (f : Port → Port) : (s.mapPorts f).crt = s.crt := rfl
@[simp] theorem State.mapPorts_rse (s : State) (f : Port → Port) : (s.mapPorts f).rse = s.rse := rfl
@[simp] theorem State.mapPorts_cmn (s : State) (f : Port → Port) : (s.mapPorts f).cmn = s.cmn := rfl
@[simp] theorem State.mapPorts_cau (s : State) (f : Port → Port) : (s.mapPorts f).cau = s.cau := rfl
@[simp] theorem State.mapPorts_hru (s : State) (f : Port → Port) : (s.mapPorts f).hru = s.hru := rfl
@[simp] theorem State.mapPorts_sts (s : State) (f : Port → Port) : (s.mapPorts f).sts = s.sts := rfl
@[simp] theorem State.mapPorts_tmb (s : State) (f : Port → Port) : (s.mapPorts f).tmb = s.tmb := rfl
@[simp] theorem State.mapPorts_pending (s : State) (f : Port → Port) : (s.mapPorts f).pending = s.pending := rfl
@[simp] theorem State.mapPorts_group (s : State) (f : Port → Port) (g' : Nat) :
    (s.mapPorts f).group g' = s.group g' := rfl
@[simp] theorem State.mapPorts_circuit (s : State) (f : Port → Port) (c' : Nat) :
    (s.mapPorts f).circuit c' = s.circuit c' := rfl
@[simp] theorem State.mapPorts_call (s : State) (f : Port → Port) (i' : Nat) :
    (s.mapPorts f).call i' = s.call i' := rfl
@[simp] theorem State.mapPorts_gen (s : State) (f : Port → Port) (i' : Nat) :
    (s.mapPorts f).gen i' = s.gen i' := rfl
@[simp] theorem State.mapPorts_dest (s : State) (f : Port → Port) (d' : Nat) :
    (s.mapPorts f).dest d' = s.dest d' := rfl
@[simp] theorem State.mapPorts_routeSet (s : State) (f : Port → Port) (n' : Nat) :
    (s.mapPorts f).routeSet n' = s.routeSet n' := rfl
@[simp] theorem State.mapPorts_congestion (s : State) (f : Port → Port) (g' : Nat) :
    (s.mapPorts f).congestion g' = s.congestion g' := rfl
@[simp] theorem State.mapPorts_agreement (s : State) (f : Port → Port) (c' : Nat) :
    (s.mapPorts f).agreement c' = s.agreement c' := rfl
@[simp] theorem State.mapPorts_tariff (s : State) (f : Port → Port) (c' : Nat) (n' : Nat) :
    (s.mapPorts f).tariff c' n' = s.tariff c' n' := rfl
@[simp] theorem State.mapPorts_pendingTariff (s : State) (f : Port → Port) (c' : Nat) (n' : Nat) :
    (s.mapPorts f).pendingTariff c' n' = s.pendingTariff c' n' := rfl
@[simp] theorem State.mapPorts_bank (s : State) (f : Port → Port) (k' : BankId) :
    (s.mapPorts f).bank k' = s.bank k' := rfl
@[simp] theorem State.mapPorts_now (s : State) (f : Port → Port) :
    (s.mapPorts f).now = s.now := rfl
@[simp] theorem State.mapPorts_profile (s : State) (f : Port → Port) (n' : Nat) :
    (s.mapPorts f).profile n' = s.profile n' := rfl
@[simp] theorem State.mapPorts_stagedProfile (s : State) (f : Port → Port) (n' : Nat) :
    (s.mapPorts f).stagedProfile n' = s.stagedProfile n' := rfl

/-! ### `State.raiseAll` -/

@[simp] theorem State.raiseAll_cpl (s : State) (b : NoticeBody) : (s.raiseAll b).cpl = s.cpl := rfl
@[simp] theorem State.raiseAll_crt (s : State) (b : NoticeBody) : (s.raiseAll b).crt = s.crt := rfl
@[simp] theorem State.raiseAll_rse (s : State) (b : NoticeBody) : (s.raiseAll b).rse = s.rse := rfl
@[simp] theorem State.raiseAll_cmn (s : State) (b : NoticeBody) : (s.raiseAll b).cmn = s.cmn := rfl
@[simp] theorem State.raiseAll_cau (s : State) (b : NoticeBody) : (s.raiseAll b).cau = s.cau := rfl
@[simp] theorem State.raiseAll_hru (s : State) (b : NoticeBody) : (s.raiseAll b).hru = s.hru := rfl
@[simp] theorem State.raiseAll_sts (s : State) (b : NoticeBody) : (s.raiseAll b).sts = s.sts := rfl
@[simp] theorem State.raiseAll_tmb (s : State) (b : NoticeBody) : (s.raiseAll b).tmb = s.tmb := rfl
@[simp] theorem State.raiseAll_pending (s : State) (b : NoticeBody) : (s.raiseAll b).pending = s.pending := rfl
@[simp] theorem State.raiseAll_group (s : State) (b : NoticeBody) (g' : Nat) :
    (s.raiseAll b).group g' = s.group g' := rfl
@[simp] theorem State.raiseAll_circuit (s : State) (b : NoticeBody) (c' : Nat) :
    (s.raiseAll b).circuit c' = s.circuit c' := rfl
@[simp] theorem State.raiseAll_call (s : State) (b : NoticeBody) (i' : Nat) :
    (s.raiseAll b).call i' = s.call i' := rfl
@[simp] theorem State.raiseAll_gen (s : State) (b : NoticeBody) (i' : Nat) :
    (s.raiseAll b).gen i' = s.gen i' := rfl
@[simp] theorem State.raiseAll_dest (s : State) (b : NoticeBody) (d' : Nat) :
    (s.raiseAll b).dest d' = s.dest d' := rfl
@[simp] theorem State.raiseAll_routeSet (s : State) (b : NoticeBody) (n' : Nat) :
    (s.raiseAll b).routeSet n' = s.routeSet n' := rfl
@[simp] theorem State.raiseAll_congestion (s : State) (b : NoticeBody) (g' : Nat) :
    (s.raiseAll b).congestion g' = s.congestion g' := rfl
@[simp] theorem State.raiseAll_agreement (s : State) (b : NoticeBody) (c' : Nat) :
    (s.raiseAll b).agreement c' = s.agreement c' := rfl
@[simp] theorem State.raiseAll_tariff (s : State) (b : NoticeBody) (c' : Nat) (n' : Nat) :
    (s.raiseAll b).tariff c' n' = s.tariff c' n' := rfl
@[simp] theorem State.raiseAll_pendingTariff (s : State) (b : NoticeBody) (c' : Nat) (n' : Nat) :
    (s.raiseAll b).pendingTariff c' n' = s.pendingTariff c' n' := rfl
@[simp] theorem State.raiseAll_bank (s : State) (b : NoticeBody) (k' : BankId) :
    (s.raiseAll b).bank k' = s.bank k' := rfl
@[simp] theorem State.raiseAll_now (s : State) (b : NoticeBody) :
    (s.raiseAll b).now = s.now := rfl
@[simp] theorem State.raiseAll_profile (s : State) (b : NoticeBody) (n' : Nat) :
    (s.raiseAll b).profile n' = s.profile n' := rfl
@[simp] theorem State.raiseAll_stagedProfile (s : State) (b : NoticeBody) (n' : Nat) :
    (s.raiseAll b).stagedProfile n' = s.stagedProfile n' := rfl

/-! ### `State.raiseTo` -/

@[simp] theorem State.raiseTo_cpl (s : State) (p : PortId) (b : NoticeBody) : (s.raiseTo p b).cpl = s.cpl := rfl
@[simp] theorem State.raiseTo_crt (s : State) (p : PortId) (b : NoticeBody) : (s.raiseTo p b).crt = s.crt := rfl
@[simp] theorem State.raiseTo_rse (s : State) (p : PortId) (b : NoticeBody) : (s.raiseTo p b).rse = s.rse := rfl
@[simp] theorem State.raiseTo_cmn (s : State) (p : PortId) (b : NoticeBody) : (s.raiseTo p b).cmn = s.cmn := rfl
@[simp] theorem State.raiseTo_cau (s : State) (p : PortId) (b : NoticeBody) : (s.raiseTo p b).cau = s.cau := rfl
@[simp] theorem State.raiseTo_hru (s : State) (p : PortId) (b : NoticeBody) : (s.raiseTo p b).hru = s.hru := rfl
@[simp] theorem State.raiseTo_sts (s : State) (p : PortId) (b : NoticeBody) : (s.raiseTo p b).sts = s.sts := rfl
@[simp] theorem State.raiseTo_tmb (s : State) (p : PortId) (b : NoticeBody) : (s.raiseTo p b).tmb = s.tmb := rfl
@[simp] theorem State.raiseTo_pending (s : State) (p : PortId) (b : NoticeBody) : (s.raiseTo p b).pending = s.pending := rfl
@[simp] theorem State.raiseTo_group (s : State) (p : PortId) (b : NoticeBody) (g' : Nat) :
    (s.raiseTo p b).group g' = s.group g' := rfl
@[simp] theorem State.raiseTo_circuit (s : State) (p : PortId) (b : NoticeBody) (c' : Nat) :
    (s.raiseTo p b).circuit c' = s.circuit c' := rfl
@[simp] theorem State.raiseTo_call (s : State) (p : PortId) (b : NoticeBody) (i' : Nat) :
    (s.raiseTo p b).call i' = s.call i' := rfl
@[simp] theorem State.raiseTo_gen (s : State) (p : PortId) (b : NoticeBody) (i' : Nat) :
    (s.raiseTo p b).gen i' = s.gen i' := rfl
@[simp] theorem State.raiseTo_dest (s : State) (p : PortId) (b : NoticeBody) (d' : Nat) :
    (s.raiseTo p b).dest d' = s.dest d' := rfl
@[simp] theorem State.raiseTo_routeSet (s : State) (p : PortId) (b : NoticeBody) (n' : Nat) :
    (s.raiseTo p b).routeSet n' = s.routeSet n' := rfl
@[simp] theorem State.raiseTo_congestion (s : State) (p : PortId) (b : NoticeBody) (g' : Nat) :
    (s.raiseTo p b).congestion g' = s.congestion g' := rfl
@[simp] theorem State.raiseTo_agreement (s : State) (p : PortId) (b : NoticeBody) (c' : Nat) :
    (s.raiseTo p b).agreement c' = s.agreement c' := rfl
@[simp] theorem State.raiseTo_tariff (s : State) (p : PortId) (b : NoticeBody) (c' : Nat) (n' : Nat) :
    (s.raiseTo p b).tariff c' n' = s.tariff c' n' := rfl
@[simp] theorem State.raiseTo_pendingTariff (s : State) (p : PortId) (b : NoticeBody) (c' : Nat) (n' : Nat) :
    (s.raiseTo p b).pendingTariff c' n' = s.pendingTariff c' n' := rfl
@[simp] theorem State.raiseTo_bank (s : State) (p : PortId) (b : NoticeBody) (k' : BankId) :
    (s.raiseTo p b).bank k' = s.bank k' := rfl
@[simp] theorem State.raiseTo_now (s : State) (p : PortId) (b : NoticeBody) :
    (s.raiseTo p b).now = s.now := rfl
@[simp] theorem State.raiseTo_profile (s : State) (p : PortId) (b : NoticeBody) (n' : Nat) :
    (s.raiseTo p b).profile n' = s.profile n' := rfl
@[simp] theorem State.raiseTo_stagedProfile (s : State) (p : PortId) (b : NoticeBody) (n' : Nat) :
    (s.raiseTo p b).stagedProfile n' = s.stagedProfile n' := rfl

/-! ### `State.setGroup` -/

@[simp] theorem State.setGroup_pct (s : State) (g : Nat) (r : Option Group) : (s.setGroup g r).pct = s.pct := rfl
@[simp] theorem State.setGroup_cpl_circuits (s : State) (g : Nat) (r : Option Group) :
    (s.setGroup g r).cpl.circuits = s.cpl.circuits := rfl
@[simp] theorem State.setGroup_crt (s : State) (g : Nat) (r : Option Group) : (s.setGroup g r).crt = s.crt := rfl
@[simp] theorem State.setGroup_rse (s : State) (g : Nat) (r : Option Group) : (s.setGroup g r).rse = s.rse := rfl
@[simp] theorem State.setGroup_cmn (s : State) (g : Nat) (r : Option Group) : (s.setGroup g r).cmn = s.cmn := rfl
@[simp] theorem State.setGroup_cau (s : State) (g : Nat) (r : Option Group) : (s.setGroup g r).cau = s.cau := rfl
@[simp] theorem State.setGroup_hru (s : State) (g : Nat) (r : Option Group) : (s.setGroup g r).hru = s.hru := rfl
@[simp] theorem State.setGroup_sts (s : State) (g : Nat) (r : Option Group) : (s.setGroup g r).sts = s.sts := rfl
@[simp] theorem State.setGroup_tmb (s : State) (g : Nat) (r : Option Group) : (s.setGroup g r).tmb = s.tmb := rfl
@[simp] theorem State.setGroup_pending (s : State) (g : Nat) (r : Option Group) : (s.setGroup g r).pending = s.pending := rfl
@[simp] theorem State.setGroup_port (s : State) (g : Nat) (r : Option Group) (p' : PortId) :
    (s.setGroup g r).port p' = s.port p' := rfl
@[simp] theorem State.setGroup_circuit (s : State) (g : Nat) (r : Option Group) (c' : Nat) :
    (s.setGroup g r).circuit c' = s.circuit c' := rfl
@[simp] theorem State.setGroup_call (s : State) (g : Nat) (r : Option Group) (i' : Nat) :
    (s.setGroup g r).call i' = s.call i' := rfl
@[simp] theorem State.setGroup_gen (s : State) (g : Nat) (r : Option Group) (i' : Nat) :
    (s.setGroup g r).gen i' = s.gen i' := rfl
@[simp] theorem State.setGroup_dest (s : State) (g : Nat) (r : Option Group) (d' : Nat) :
    (s.setGroup g r).dest d' = s.dest d' := rfl
@[simp] theorem State.setGroup_routeSet (s : State) (g : Nat) (r : Option Group) (n' : Nat) :
    (s.setGroup g r).routeSet n' = s.routeSet n' := rfl
@[simp] theorem State.setGroup_congestion (s : State) (g : Nat) (r : Option Group) (g' : Nat) :
    (s.setGroup g r).congestion g' = s.congestion g' := rfl
@[simp] theorem State.setGroup_agreement (s : State) (g : Nat) (r : Option Group) (c' : Nat) :
    (s.setGroup g r).agreement c' = s.agreement c' := rfl
@[simp] theorem State.setGroup_tariff (s : State) (g : Nat) (r : Option Group) (c' : Nat) (n' : Nat) :
    (s.setGroup g r).tariff c' n' = s.tariff c' n' := rfl
@[simp] theorem State.setGroup_pendingTariff (s : State) (g : Nat) (r : Option Group) (c' : Nat) (n' : Nat) :
    (s.setGroup g r).pendingTariff c' n' = s.pendingTariff c' n' := rfl
@[simp] theorem State.setGroup_bank (s : State) (g : Nat) (r : Option Group) (k' : BankId) :
    (s.setGroup g r).bank k' = s.bank k' := rfl
@[simp] theorem State.setGroup_now (s : State) (g : Nat) (r : Option Group) :
    (s.setGroup g r).now = s.now := rfl
@[simp] theorem State.setGroup_profile (s : State) (g : Nat) (r : Option Group) (n' : Nat) :
    (s.setGroup g r).profile n' = s.profile n' := rfl
@[simp] theorem State.setGroup_stagedProfile (s : State) (g : Nat) (r : Option Group) (n' : Nat) :
    (s.setGroup g r).stagedProfile n' = s.stagedProfile n' := rfl

/-! ### `State.setCircuit` -/

@[simp] theorem State.setCircuit_pct (s : State) (c : Nat) (v : Circuit) : (s.setCircuit c v).pct = s.pct := rfl
@[simp] theorem State.setCircuit_cpl_groups (s : State) (c : Nat) (v : Circuit) :
    (s.setCircuit c v).cpl.groups = s.cpl.groups := rfl
@[simp] theorem State.setCircuit_crt (s : State) (c : Nat) (v : Circuit) : (s.setCircuit c v).crt = s.crt := rfl
@[simp] theorem State.setCircuit_rse (s : State) (c : Nat) (v : Circuit) : (s.setCircuit c v).rse = s.rse := rfl
@[simp] theorem State.setCircuit_cmn (s : State) (c : Nat) (v : Circuit) : (s.setCircuit c v).cmn = s.cmn := rfl
@[simp] theorem State.setCircuit_cau (s : State) (c : Nat) (v : Circuit) : (s.setCircuit c v).cau = s.cau := rfl
@[simp] theorem State.setCircuit_hru (s : State) (c : Nat) (v : Circuit) : (s.setCircuit c v).hru = s.hru := rfl
@[simp] theorem State.setCircuit_sts (s : State) (c : Nat) (v : Circuit) : (s.setCircuit c v).sts = s.sts := rfl
@[simp] theorem State.setCircuit_tmb (s : State) (c : Nat) (v : Circuit) : (s.setCircuit c v).tmb = s.tmb := rfl
@[simp] theorem State.setCircuit_pending (s : State) (c : Nat) (v : Circuit) : (s.setCircuit c v).pending = s.pending := rfl
@[simp] theorem State.setCircuit_port (s : State) (c : Nat) (v : Circuit) (p' : PortId) :
    (s.setCircuit c v).port p' = s.port p' := rfl
@[simp] theorem State.setCircuit_group (s : State) (c : Nat) (v : Circuit) (g' : Nat) :
    (s.setCircuit c v).group g' = s.group g' := rfl
@[simp] theorem State.setCircuit_call (s : State) (c : Nat) (v : Circuit) (i' : Nat) :
    (s.setCircuit c v).call i' = s.call i' := rfl
@[simp] theorem State.setCircuit_gen (s : State) (c : Nat) (v : Circuit) (i' : Nat) :
    (s.setCircuit c v).gen i' = s.gen i' := rfl
@[simp] theorem State.setCircuit_dest (s : State) (c : Nat) (v : Circuit) (d' : Nat) :
    (s.setCircuit c v).dest d' = s.dest d' := rfl
@[simp] theorem State.setCircuit_routeSet (s : State) (c : Nat) (v : Circuit) (n' : Nat) :
    (s.setCircuit c v).routeSet n' = s.routeSet n' := rfl
@[simp] theorem State.setCircuit_congestion (s : State) (c : Nat) (v : Circuit) (g' : Nat) :
    (s.setCircuit c v).congestion g' = s.congestion g' := rfl
@[simp] theorem State.setCircuit_agreement (s : State) (c : Nat) (v : Circuit) (c' : Nat) :
    (s.setCircuit c v).agreement c' = s.agreement c' := rfl
@[simp] theorem State.setCircuit_tariff (s : State) (c : Nat) (v : Circuit) (c' : Nat) (n' : Nat) :
    (s.setCircuit c v).tariff c' n' = s.tariff c' n' := rfl
@[simp] theorem State.setCircuit_pendingTariff (s : State) (c : Nat) (v : Circuit) (c' : Nat) (n' : Nat) :
    (s.setCircuit c v).pendingTariff c' n' = s.pendingTariff c' n' := rfl
@[simp] theorem State.setCircuit_bank (s : State) (c : Nat) (v : Circuit) (k' : BankId) :
    (s.setCircuit c v).bank k' = s.bank k' := rfl
@[simp] theorem State.setCircuit_now (s : State) (c : Nat) (v : Circuit) :
    (s.setCircuit c v).now = s.now := rfl
@[simp] theorem State.setCircuit_profile (s : State) (c : Nat) (v : Circuit) (n' : Nat) :
    (s.setCircuit c v).profile n' = s.profile n' := rfl
@[simp] theorem State.setCircuit_stagedProfile (s : State) (c : Nat) (v : Circuit) (n' : Nat) :
    (s.setCircuit c v).stagedProfile n' = s.stagedProfile n' := rfl

/-! ### `State.setCall` -/

@[simp] theorem State.setCall_pct (s : State) (i : Nat) (r : Option CallRecord) : (s.setCall i r).pct = s.pct := rfl
@[simp] theorem State.setCall_cpl (s : State) (i : Nat) (r : Option CallRecord) : (s.setCall i r).cpl = s.cpl := rfl
@[simp] theorem State.setCall_crt_gens (s : State) (i : Nat) (r : Option CallRecord) :
    (s.setCall i r).crt.gens = s.crt.gens := rfl
@[simp] theorem State.setCall_crt_queue (s : State) (i : Nat) (r : Option CallRecord) :
    (s.setCall i r).crt.queue = s.crt.queue := rfl
@[simp] theorem State.setCall_crt_guardSeconds (s : State) (i : Nat) (r : Option CallRecord) :
    (s.setCall i r).crt.guardSeconds = s.crt.guardSeconds := rfl
@[simp] theorem State.setCall_rse (s : State) (i : Nat) (r : Option CallRecord) : (s.setCall i r).rse = s.rse := rfl
@[simp] theorem State.setCall_cmn (s : State) (i : Nat) (r : Option CallRecord) : (s.setCall i r).cmn = s.cmn := rfl
@[simp] theorem State.setCall_cau (s : State) (i : Nat) (r : Option CallRecord) : (s.setCall i r).cau = s.cau := rfl
@[simp] theorem State.setCall_hru (s : State) (i : Nat) (r : Option CallRecord) : (s.setCall i r).hru = s.hru := rfl
@[simp] theorem State.setCall_sts (s : State) (i : Nat) (r : Option CallRecord) : (s.setCall i r).sts = s.sts := rfl
@[simp] theorem State.setCall_tmb (s : State) (i : Nat) (r : Option CallRecord) : (s.setCall i r).tmb = s.tmb := rfl
@[simp] theorem State.setCall_pending (s : State) (i : Nat) (r : Option CallRecord) : (s.setCall i r).pending = s.pending := rfl
@[simp] theorem State.setCall_port (s : State) (i : Nat) (r : Option CallRecord) (p' : PortId) :
    (s.setCall i r).port p' = s.port p' := rfl
@[simp] theorem State.setCall_group (s : State) (i : Nat) (r : Option CallRecord) (g' : Nat) :
    (s.setCall i r).group g' = s.group g' := rfl
@[simp] theorem State.setCall_circuit (s : State) (i : Nat) (r : Option CallRecord) (c' : Nat) :
    (s.setCall i r).circuit c' = s.circuit c' := rfl
@[simp] theorem State.setCall_gen (s : State) (i : Nat) (r : Option CallRecord) (i' : Nat) :
    (s.setCall i r).gen i' = s.gen i' := rfl
@[simp] theorem State.setCall_dest (s : State) (i : Nat) (r : Option CallRecord) (d' : Nat) :
    (s.setCall i r).dest d' = s.dest d' := rfl
@[simp] theorem State.setCall_routeSet (s : State) (i : Nat) (r : Option CallRecord) (n' : Nat) :
    (s.setCall i r).routeSet n' = s.routeSet n' := rfl
@[simp] theorem State.setCall_congestion (s : State) (i : Nat) (r : Option CallRecord) (g' : Nat) :
    (s.setCall i r).congestion g' = s.congestion g' := rfl
@[simp] theorem State.setCall_agreement (s : State) (i : Nat) (r : Option CallRecord) (c' : Nat) :
    (s.setCall i r).agreement c' = s.agreement c' := rfl
@[simp] theorem State.setCall_tariff (s : State) (i : Nat) (r : Option CallRecord) (c' : Nat) (n' : Nat) :
    (s.setCall i r).tariff c' n' = s.tariff c' n' := rfl
@[simp] theorem State.setCall_pendingTariff (s : State) (i : Nat) (r : Option CallRecord) (c' : Nat) (n' : Nat) :
    (s.setCall i r).pendingTariff c' n' = s.pendingTariff c' n' := rfl
@[simp] theorem State.setCall_bank (s : State) (i : Nat) (r : Option CallRecord) (k' : BankId) :
    (s.setCall i r).bank k' = s.bank k' := rfl
@[simp] theorem State.setCall_now (s : State) (i : Nat) (r : Option CallRecord) :
    (s.setCall i r).now = s.now := rfl
@[simp] theorem State.setCall_profile (s : State) (i : Nat) (r : Option CallRecord) (n' : Nat) :
    (s.setCall i r).profile n' = s.profile n' := rfl
@[simp] theorem State.setCall_stagedProfile (s : State) (i : Nat) (r : Option CallRecord) (n' : Nat) :
    (s.setCall i r).stagedProfile n' = s.stagedProfile n' := rfl

/-! ### `State.setDest` -/

@[simp] theorem State.setDest_pct (s : State) (d : Nat) (r : Dest) : (s.setDest d r).pct = s.pct := rfl
@[simp] theorem State.setDest_cpl (s : State) (d : Nat) (r : Dest) : (s.setDest d r).cpl = s.cpl := rfl
@[simp] theorem State.setDest_crt (s : State) (d : Nat) (r : Dest) : (s.setDest d r).crt = s.crt := rfl
@[simp] theorem State.setDest_rse_sets (s : State) (d : Nat) (r : Dest) :
    (s.setDest d r).rse.sets = s.rse.sets := rfl
@[simp] theorem State.setDest_rse_pointer (s : State) (d : Nat) (r : Dest) :
    (s.setDest d r).rse.pointer = s.rse.pointer := rfl
@[simp] theorem State.setDest_cmn (s : State) (d : Nat) (r : Dest) : (s.setDest d r).cmn = s.cmn := rfl
@[simp] theorem State.setDest_cau (s : State) (d : Nat) (r : Dest) : (s.setDest d r).cau = s.cau := rfl
@[simp] theorem State.setDest_hru (s : State) (d : Nat) (r : Dest) : (s.setDest d r).hru = s.hru := rfl
@[simp] theorem State.setDest_sts (s : State) (d : Nat) (r : Dest) : (s.setDest d r).sts = s.sts := rfl
@[simp] theorem State.setDest_tmb (s : State) (d : Nat) (r : Dest) : (s.setDest d r).tmb = s.tmb := rfl
@[simp] theorem State.setDest_pending (s : State) (d : Nat) (r : Dest) : (s.setDest d r).pending = s.pending := rfl
@[simp] theorem State.setDest_port (s : State) (d : Nat) (r : Dest) (p' : PortId) :
    (s.setDest d r).port p' = s.port p' := rfl
@[simp] theorem State.setDest_group (s : State) (d : Nat) (r : Dest) (g' : Nat) :
    (s.setDest d r).group g' = s.group g' := rfl
@[simp] theorem State.setDest_circuit (s : State) (d : Nat) (r : Dest) (c' : Nat) :
    (s.setDest d r).circuit c' = s.circuit c' := rfl
@[simp] theorem State.setDest_call (s : State) (d : Nat) (r : Dest) (i' : Nat) :
    (s.setDest d r).call i' = s.call i' := rfl
@[simp] theorem State.setDest_gen (s : State) (d : Nat) (r : Dest) (i' : Nat) :
    (s.setDest d r).gen i' = s.gen i' := rfl
@[simp] theorem State.setDest_routeSet (s : State) (d : Nat) (r : Dest) (n' : Nat) :
    (s.setDest d r).routeSet n' = s.routeSet n' := rfl
@[simp] theorem State.setDest_congestion (s : State) (d : Nat) (r : Dest) (g' : Nat) :
    (s.setDest d r).congestion g' = s.congestion g' := rfl
@[simp] theorem State.setDest_agreement (s : State) (d : Nat) (r : Dest) (c' : Nat) :
    (s.setDest d r).agreement c' = s.agreement c' := rfl
@[simp] theorem State.setDest_tariff (s : State) (d : Nat) (r : Dest) (c' : Nat) (n' : Nat) :
    (s.setDest d r).tariff c' n' = s.tariff c' n' := rfl
@[simp] theorem State.setDest_pendingTariff (s : State) (d : Nat) (r : Dest) (c' : Nat) (n' : Nat) :
    (s.setDest d r).pendingTariff c' n' = s.pendingTariff c' n' := rfl
@[simp] theorem State.setDest_bank (s : State) (d : Nat) (r : Dest) (k' : BankId) :
    (s.setDest d r).bank k' = s.bank k' := rfl
@[simp] theorem State.setDest_now (s : State) (d : Nat) (r : Dest) :
    (s.setDest d r).now = s.now := rfl
@[simp] theorem State.setDest_profile (s : State) (d : Nat) (r : Dest) (n' : Nat) :
    (s.setDest d r).profile n' = s.profile n' := rfl
@[simp] theorem State.setDest_stagedProfile (s : State) (d : Nat) (r : Dest) (n' : Nat) :
    (s.setDest d r).stagedProfile n' = s.stagedProfile n' := rfl

/-! ### `State.setRestriction` -/

@[simp] theorem State.setRestriction_pct (s : State) (d : Nat) (r : Option Restriction) : (s.setRestriction d r).pct = s.pct := rfl
@[simp] theorem State.setRestriction_cpl (s : State) (d : Nat) (r : Option Restriction) : (s.setRestriction d r).cpl = s.cpl := rfl
@[simp] theorem State.setRestriction_crt (s : State) (d : Nat) (r : Option Restriction) : (s.setRestriction d r).crt = s.crt := rfl
@[simp] theorem State.setRestriction_rse_sets (s : State) (d : Nat) (r : Option Restriction) :
    (s.setRestriction d r).rse.sets = s.rse.sets := rfl
@[simp] theorem State.setRestriction_rse_pointer (s : State) (d : Nat) (r : Option Restriction) :
    (s.setRestriction d r).rse.pointer = s.rse.pointer := rfl
@[simp] theorem State.setRestriction_cmn (s : State) (d : Nat) (r : Option Restriction) : (s.setRestriction d r).cmn = s.cmn := rfl
@[simp] theorem State.setRestriction_cau (s : State) (d : Nat) (r : Option Restriction) : (s.setRestriction d r).cau = s.cau := rfl
@[simp] theorem State.setRestriction_hru (s : State) (d : Nat) (r : Option Restriction) : (s.setRestriction d r).hru = s.hru := rfl
@[simp] theorem State.setRestriction_sts (s : State) (d : Nat) (r : Option Restriction) : (s.setRestriction d r).sts = s.sts := rfl
@[simp] theorem State.setRestriction_tmb (s : State) (d : Nat) (r : Option Restriction) : (s.setRestriction d r).tmb = s.tmb := rfl
@[simp] theorem State.setRestriction_pending (s : State) (d : Nat) (r : Option Restriction) : (s.setRestriction d r).pending = s.pending := rfl
@[simp] theorem State.setRestriction_port (s : State) (d : Nat) (r : Option Restriction) (p' : PortId) :
    (s.setRestriction d r).port p' = s.port p' := rfl
@[simp] theorem State.setRestriction_group (s : State) (d : Nat) (r : Option Restriction) (g' : Nat) :
    (s.setRestriction d r).group g' = s.group g' := rfl
@[simp] theorem State.setRestriction_circuit (s : State) (d : Nat) (r : Option Restriction) (c' : Nat) :
    (s.setRestriction d r).circuit c' = s.circuit c' := rfl
@[simp] theorem State.setRestriction_call (s : State) (d : Nat) (r : Option Restriction) (i' : Nat) :
    (s.setRestriction d r).call i' = s.call i' := rfl
@[simp] theorem State.setRestriction_gen (s : State) (d : Nat) (r : Option Restriction) (i' : Nat) :
    (s.setRestriction d r).gen i' = s.gen i' := rfl
@[simp] theorem State.setRestriction_routeSet (s : State) (d : Nat) (r : Option Restriction) (n' : Nat) :
    (s.setRestriction d r).routeSet n' = s.routeSet n' := rfl
@[simp] theorem State.setRestriction_congestion (s : State) (d : Nat) (r : Option Restriction) (g' : Nat) :
    (s.setRestriction d r).congestion g' = s.congestion g' := rfl
@[simp] theorem State.setRestriction_agreement (s : State) (d : Nat) (r : Option Restriction) (c' : Nat) :
    (s.setRestriction d r).agreement c' = s.agreement c' := rfl
@[simp] theorem State.setRestriction_tariff (s : State) (d : Nat) (r : Option Restriction) (c' : Nat) (n' : Nat) :
    (s.setRestriction d r).tariff c' n' = s.tariff c' n' := rfl
@[simp] theorem State.setRestriction_pendingTariff (s : State) (d : Nat) (r : Option Restriction) (c' : Nat) (n' : Nat) :
    (s.setRestriction d r).pendingTariff c' n' = s.pendingTariff c' n' := rfl
@[simp] theorem State.setRestriction_bank (s : State) (d : Nat) (r : Option Restriction) (k' : BankId) :
    (s.setRestriction d r).bank k' = s.bank k' := rfl
@[simp] theorem State.setRestriction_now (s : State) (d : Nat) (r : Option Restriction) :
    (s.setRestriction d r).now = s.now := rfl
@[simp] theorem State.setRestriction_profile (s : State) (d : Nat) (r : Option Restriction) (n' : Nat) :
    (s.setRestriction d r).profile n' = s.profile n' := rfl
@[simp] theorem State.setRestriction_stagedProfile (s : State) (d : Nat) (r : Option Restriction) (n' : Nat) :
    (s.setRestriction d r).stagedProfile n' = s.stagedProfile n' := rfl

/-! ### `State.setCongestion` -/

@[simp] theorem State.setCongestion_pct (s : State) (g : Nat) (r : CongestionRecord) : (s.setCongestion g r).pct = s.pct := rfl
@[simp] theorem State.setCongestion_cpl (s : State) (g : Nat) (r : CongestionRecord) : (s.setCongestion g r).cpl = s.cpl := rfl
@[simp] theorem State.setCongestion_crt (s : State) (g : Nat) (r : CongestionRecord) : (s.setCongestion g r).crt = s.crt := rfl
@[simp] theorem State.setCongestion_rse (s : State) (g : Nat) (r : CongestionRecord) : (s.setCongestion g r).rse = s.rse := rfl
@[simp] theorem State.setCongestion_cmn_inForce (s : State) (g : Nat) (r : CongestionRecord) :
    (s.setCongestion g r).cmn.inForce = s.cmn.inForce := rfl
@[simp] theorem State.setCongestion_cmn_staged (s : State) (g : Nat) (r : CongestionRecord) :
    (s.setCongestion g r).cmn.staged = s.cmn.staged := rfl
@[simp] theorem State.setCongestion_cmn_inForcePeriod (s : State) (g : Nat) (r : CongestionRecord) :
    (s.setCongestion g r).cmn.inForcePeriod = s.cmn.inForcePeriod := rfl
@[simp] theorem State.setCongestion_cmn_stagedPeriod (s : State) (g : Nat) (r : CongestionRecord) :
    (s.setCongestion g r).cmn.stagedPeriod = s.cmn.stagedPeriod := rfl
@[simp] theorem State.setCongestion_cmn_nextPeriodEnd (s : State) (g : Nat) (r : CongestionRecord) :
    (s.setCongestion g r).cmn.nextPeriodEnd = s.cmn.nextPeriodEnd := rfl
@[simp] theorem State.setCongestion_cau (s : State) (g : Nat) (r : CongestionRecord) : (s.setCongestion g r).cau = s.cau := rfl
@[simp] theorem State.setCongestion_hru (s : State) (g : Nat) (r : CongestionRecord) : (s.setCongestion g r).hru = s.hru := rfl
@[simp] theorem State.setCongestion_sts (s : State) (g : Nat) (r : CongestionRecord) : (s.setCongestion g r).sts = s.sts := rfl
@[simp] theorem State.setCongestion_tmb (s : State) (g : Nat) (r : CongestionRecord) : (s.setCongestion g r).tmb = s.tmb := rfl
@[simp] theorem State.setCongestion_pending (s : State) (g : Nat) (r : CongestionRecord) : (s.setCongestion g r).pending = s.pending := rfl
@[simp] theorem State.setCongestion_port (s : State) (g : Nat) (r : CongestionRecord) (p' : PortId) :
    (s.setCongestion g r).port p' = s.port p' := rfl
@[simp] theorem State.setCongestion_group (s : State) (g : Nat) (r : CongestionRecord) (g' : Nat) :
    (s.setCongestion g r).group g' = s.group g' := rfl
@[simp] theorem State.setCongestion_circuit (s : State) (g : Nat) (r : CongestionRecord) (c' : Nat) :
    (s.setCongestion g r).circuit c' = s.circuit c' := rfl
@[simp] theorem State.setCongestion_call (s : State) (g : Nat) (r : CongestionRecord) (i' : Nat) :
    (s.setCongestion g r).call i' = s.call i' := rfl
@[simp] theorem State.setCongestion_gen (s : State) (g : Nat) (r : CongestionRecord) (i' : Nat) :
    (s.setCongestion g r).gen i' = s.gen i' := rfl
@[simp] theorem State.setCongestion_dest (s : State) (g : Nat) (r : CongestionRecord) (d' : Nat) :
    (s.setCongestion g r).dest d' = s.dest d' := rfl
@[simp] theorem State.setCongestion_routeSet (s : State) (g : Nat) (r : CongestionRecord) (n' : Nat) :
    (s.setCongestion g r).routeSet n' = s.routeSet n' := rfl
@[simp] theorem State.setCongestion_agreement (s : State) (g : Nat) (r : CongestionRecord) (c' : Nat) :
    (s.setCongestion g r).agreement c' = s.agreement c' := rfl
@[simp] theorem State.setCongestion_tariff (s : State) (g : Nat) (r : CongestionRecord) (c' : Nat) (n' : Nat) :
    (s.setCongestion g r).tariff c' n' = s.tariff c' n' := rfl
@[simp] theorem State.setCongestion_pendingTariff (s : State) (g : Nat) (r : CongestionRecord) (c' : Nat) (n' : Nat) :
    (s.setCongestion g r).pendingTariff c' n' = s.pendingTariff c' n' := rfl
@[simp] theorem State.setCongestion_bank (s : State) (g : Nat) (r : CongestionRecord) (k' : BankId) :
    (s.setCongestion g r).bank k' = s.bank k' := rfl
@[simp] theorem State.setCongestion_now (s : State) (g : Nat) (r : CongestionRecord) :
    (s.setCongestion g r).now = s.now := rfl
@[simp] theorem State.setCongestion_profile (s : State) (g : Nat) (r : CongestionRecord) (n' : Nat) :
    (s.setCongestion g r).profile n' = s.profile n' := rfl
@[simp] theorem State.setCongestion_stagedProfile (s : State) (g : Nat) (r : CongestionRecord) (n' : Nat) :
    (s.setCongestion g r).stagedProfile n' = s.stagedProfile n' := rfl

/-! ### `State.setAgreement` -/

@[simp] theorem State.setAgreement_pct (s : State) (c : Nat) (r : Agreement) : (s.setAgreement c r).pct = s.pct := rfl
@[simp] theorem State.setAgreement_cpl (s : State) (c : Nat) (r : Agreement) : (s.setAgreement c r).cpl = s.cpl := rfl
@[simp] theorem State.setAgreement_crt (s : State) (c : Nat) (r : Agreement) : (s.setAgreement c r).crt = s.crt := rfl
@[simp] theorem State.setAgreement_rse (s : State) (c : Nat) (r : Agreement) : (s.setAgreement c r).rse = s.rse := rfl
@[simp] theorem State.setAgreement_cmn (s : State) (c : Nat) (r : Agreement) : (s.setAgreement c r).cmn = s.cmn := rfl
@[simp] theorem State.setAgreement_hru (s : State) (c : Nat) (r : Agreement) : (s.setAgreement c r).hru = s.hru := rfl
@[simp] theorem State.setAgreement_sts (s : State) (c : Nat) (r : Agreement) : (s.setAgreement c r).sts = s.sts := rfl
@[simp] theorem State.setAgreement_tmb (s : State) (c : Nat) (r : Agreement) : (s.setAgreement c r).tmb = s.tmb := rfl
@[simp] theorem State.setAgreement_pending (s : State) (c : Nat) (r : Agreement) : (s.setAgreement c r).pending = s.pending := rfl
@[simp] theorem State.setAgreement_port (s : State) (c : Nat) (r : Agreement) (p' : PortId) :
    (s.setAgreement c r).port p' = s.port p' := rfl
@[simp] theorem State.setAgreement_group (s : State) (c : Nat) (r : Agreement) (g' : Nat) :
    (s.setAgreement c r).group g' = s.group g' := rfl
@[simp] theorem State.setAgreement_circuit (s : State) (c : Nat) (r : Agreement) (c' : Nat) :
    (s.setAgreement c r).circuit c' = s.circuit c' := rfl
@[simp] theorem State.setAgreement_call (s : State) (c : Nat) (r : Agreement) (i' : Nat) :
    (s.setAgreement c r).call i' = s.call i' := rfl
@[simp] theorem State.setAgreement_gen (s : State) (c : Nat) (r : Agreement) (i' : Nat) :
    (s.setAgreement c r).gen i' = s.gen i' := rfl
@[simp] theorem State.setAgreement_dest (s : State) (c : Nat) (r : Agreement) (d' : Nat) :
    (s.setAgreement c r).dest d' = s.dest d' := rfl
@[simp] theorem State.setAgreement_routeSet (s : State) (c : Nat) (r : Agreement) (n' : Nat) :
    (s.setAgreement c r).routeSet n' = s.routeSet n' := rfl
@[simp] theorem State.setAgreement_congestion (s : State) (c : Nat) (r : Agreement) (g' : Nat) :
    (s.setAgreement c r).congestion g' = s.congestion g' := rfl
@[simp] theorem State.setAgreement_tariff (s : State) (c : Nat) (r : Agreement) (c' : Nat) (n' : Nat) :
    (s.setAgreement c r).tariff c' n' = s.tariff c' n' := rfl
@[simp] theorem State.setAgreement_pendingTariff (s : State) (c : Nat) (r : Agreement) (c' : Nat) (n' : Nat) :
    (s.setAgreement c r).pendingTariff c' n' = s.pendingTariff c' n' := rfl
@[simp] theorem State.setAgreement_bank (s : State) (c : Nat) (r : Agreement) (k' : BankId) :
    (s.setAgreement c r).bank k' = s.bank k' := rfl
@[simp] theorem State.setAgreement_now (s : State) (c : Nat) (r : Agreement) :
    (s.setAgreement c r).now = s.now := rfl
@[simp] theorem State.setAgreement_profile (s : State) (c : Nat) (r : Agreement) (n' : Nat) :
    (s.setAgreement c r).profile n' = s.profile n' := rfl
@[simp] theorem State.setAgreement_stagedProfile (s : State) (c : Nat) (r : Agreement) (n' : Nat) :
    (s.setAgreement c r).stagedProfile n' = s.stagedProfile n' := rfl

/-! ### `State.setPendingTariff` -/

@[simp] theorem State.setPendingTariff_pct (s : State) (c n : Nat) (v : TariffClass) : (s.setPendingTariff c n v).pct = s.pct := rfl
@[simp] theorem State.setPendingTariff_cpl (s : State) (c n : Nat) (v : TariffClass) : (s.setPendingTariff c n v).cpl = s.cpl := rfl
@[simp] theorem State.setPendingTariff_crt (s : State) (c n : Nat) (v : TariffClass) : (s.setPendingTariff c n v).crt = s.crt := rfl
@[simp] theorem State.setPendingTariff_rse (s : State) (c n : Nat) (v : TariffClass) : (s.setPendingTariff c n v).rse = s.rse := rfl
@[simp] theorem State.setPendingTariff_cmn (s : State) (c n : Nat) (v : TariffClass) : (s.setPendingTariff c n v).cmn = s.cmn := rfl
@[simp] theorem State.setPendingTariff_cau (s : State) (c n : Nat) (v : TariffClass) : (s.setPendingTariff c n v).cau = s.cau := rfl
@[simp] theorem State.setPendingTariff_hru_inForce (s : State) (c n : Nat) (v : TariffClass) :
    (s.setPendingTariff c n v).hru.inForce = s.hru.inForce := rfl
@[simp] theorem State.setPendingTariff_hru_bands (s : State) (c n : Nat) (v : TariffClass) :
    (s.setPendingTariff c n v).hru.bands = s.hru.bands := rfl
@[simp] theorem State.setPendingTariff_hru_pendingBands (s : State) (c n : Nat) (v : TariffClass) :
    (s.setPendingTariff c n v).hru.pendingBands = s.hru.pendingBands := rfl
@[simp] theorem State.setPendingTariff_sts (s : State) (c n : Nat) (v : TariffClass) : (s.setPendingTariff c n v).sts = s.sts := rfl
@[simp] theorem State.setPendingTariff_tmb (s : State) (c n : Nat) (v : TariffClass) : (s.setPendingTariff c n v).tmb = s.tmb := rfl
@[simp] theorem State.setPendingTariff_pending (s : State) (c n : Nat) (v : TariffClass) : (s.setPendingTariff c n v).pending = s.pending := rfl
@[simp] theorem State.setPendingTariff_port (s : State) (c n : Nat) (v : TariffClass) (p' : PortId) :
    (s.setPendingTariff c n v).port p' = s.port p' := rfl
@[simp] theorem State.setPendingTariff_group (s : State) (c n : Nat) (v : TariffClass) (g' : Nat) :
    (s.setPendingTariff c n v).group g' = s.group g' := rfl
@[simp] theorem State.setPendingTariff_circuit (s : State) (c n : Nat) (v : TariffClass) (c' : Nat) :
    (s.setPendingTariff c n v).circuit c' = s.circuit c' := rfl
@[simp] theorem State.setPendingTariff_call (s : State) (c n : Nat) (v : TariffClass) (i' : Nat) :
    (s.setPendingTariff c n v).call i' = s.call i' := rfl
@[simp] theorem State.setPendingTariff_gen (s : State) (c n : Nat) (v : TariffClass) (i' : Nat) :
    (s.setPendingTariff c n v).gen i' = s.gen i' := rfl
@[simp] theorem State.setPendingTariff_dest (s : State) (c n : Nat) (v : TariffClass) (d' : Nat) :
    (s.setPendingTariff c n v).dest d' = s.dest d' := rfl
@[simp] theorem State.setPendingTariff_routeSet (s : State) (c n : Nat) (v : TariffClass) (n' : Nat) :
    (s.setPendingTariff c n v).routeSet n' = s.routeSet n' := rfl
@[simp] theorem State.setPendingTariff_congestion (s : State) (c n : Nat) (v : TariffClass) (g' : Nat) :
    (s.setPendingTariff c n v).congestion g' = s.congestion g' := rfl
@[simp] theorem State.setPendingTariff_agreement (s : State) (c n : Nat) (v : TariffClass) (c' : Nat) :
    (s.setPendingTariff c n v).agreement c' = s.agreement c' := rfl
@[simp] theorem State.setPendingTariff_tariff (s : State) (c n : Nat) (v : TariffClass) (c' : Nat) (n' : Nat) :
    (s.setPendingTariff c n v).tariff c' n' = s.tariff c' n' := rfl
@[simp] theorem State.setPendingTariff_bank (s : State) (c n : Nat) (v : TariffClass) (k' : BankId) :
    (s.setPendingTariff c n v).bank k' = s.bank k' := rfl
@[simp] theorem State.setPendingTariff_now (s : State) (c n : Nat) (v : TariffClass) :
    (s.setPendingTariff c n v).now = s.now := rfl
@[simp] theorem State.setPendingTariff_profile (s : State) (c n : Nat) (v : TariffClass) (n' : Nat) :
    (s.setPendingTariff c n v).profile n' = s.profile n' := rfl
@[simp] theorem State.setPendingTariff_stagedProfile (s : State) (c n : Nat) (v : TariffClass) (n' : Nat) :
    (s.setPendingTariff c n v).stagedProfile n' = s.stagedProfile n' := rfl

/-! ### `State.setBank` -/

@[simp] theorem State.setBank_pct (s : State) (k : BankId) (b : Bank) : (s.setBank k b).pct = s.pct := rfl
@[simp] theorem State.setBank_cpl (s : State) (k : BankId) (b : Bank) : (s.setBank k b).cpl = s.cpl := rfl
@[simp] theorem State.setBank_crt (s : State) (k : BankId) (b : Bank) : (s.setBank k b).crt = s.crt := rfl
@[simp] theorem State.setBank_rse (s : State) (k : BankId) (b : Bank) : (s.setBank k b).rse = s.rse := rfl
@[simp] theorem State.setBank_cmn (s : State) (k : BankId) (b : Bank) : (s.setBank k b).cmn = s.cmn := rfl
@[simp] theorem State.setBank_cau (s : State) (k : BankId) (b : Bank) : (s.setBank k b).cau = s.cau := rfl
@[simp] theorem State.setBank_hru (s : State) (k : BankId) (b : Bank) : (s.setBank k b).hru = s.hru := rfl
@[simp] theorem State.setBank_tmb (s : State) (k : BankId) (b : Bank) : (s.setBank k b).tmb = s.tmb := rfl
@[simp] theorem State.setBank_pending (s : State) (k : BankId) (b : Bank) : (s.setBank k b).pending = s.pending := rfl
@[simp] theorem State.setBank_port (s : State) (k : BankId) (b : Bank) (p' : PortId) :
    (s.setBank k b).port p' = s.port p' := rfl
@[simp] theorem State.setBank_group (s : State) (k : BankId) (b : Bank) (g' : Nat) :
    (s.setBank k b).group g' = s.group g' := rfl
@[simp] theorem State.setBank_circuit (s : State) (k : BankId) (b : Bank) (c' : Nat) :
    (s.setBank k b).circuit c' = s.circuit c' := rfl
@[simp] theorem State.setBank_call (s : State) (k : BankId) (b : Bank) (i' : Nat) :
    (s.setBank k b).call i' = s.call i' := rfl
@[simp] theorem State.setBank_gen (s : State) (k : BankId) (b : Bank) (i' : Nat) :
    (s.setBank k b).gen i' = s.gen i' := rfl
@[simp] theorem State.setBank_dest (s : State) (k : BankId) (b : Bank) (d' : Nat) :
    (s.setBank k b).dest d' = s.dest d' := rfl
@[simp] theorem State.setBank_routeSet (s : State) (k : BankId) (b : Bank) (n' : Nat) :
    (s.setBank k b).routeSet n' = s.routeSet n' := rfl
@[simp] theorem State.setBank_congestion (s : State) (k : BankId) (b : Bank) (g' : Nat) :
    (s.setBank k b).congestion g' = s.congestion g' := rfl
@[simp] theorem State.setBank_agreement (s : State) (k : BankId) (b : Bank) (c' : Nat) :
    (s.setBank k b).agreement c' = s.agreement c' := rfl
@[simp] theorem State.setBank_tariff (s : State) (k : BankId) (b : Bank) (c' : Nat) (n' : Nat) :
    (s.setBank k b).tariff c' n' = s.tariff c' n' := rfl
@[simp] theorem State.setBank_pendingTariff (s : State) (k : BankId) (b : Bank) (c' : Nat) (n' : Nat) :
    (s.setBank k b).pendingTariff c' n' = s.pendingTariff c' n' := rfl
@[simp] theorem State.setBank_now (s : State) (k : BankId) (b : Bank) :
    (s.setBank k b).now = s.now := rfl
@[simp] theorem State.setBank_profile (s : State) (k : BankId) (b : Bank) (n' : Nat) :
    (s.setBank k b).profile n' = s.profile n' := rfl
@[simp] theorem State.setBank_stagedProfile (s : State) (k : BankId) (b : Bank) (n' : Nat) :
    (s.setBank k b).stagedProfile n' = s.stagedProfile n' := rfl

/-! ### `State.deliver` -/

@[simp] theorem State.deliver_cpl (s : State) (r : Requester) (c : Instr) (a : Reply) : (s.deliver r c a).cpl = s.cpl := by cases r <;> rfl
@[simp] theorem State.deliver_crt (s : State) (r : Requester) (c : Instr) (a : Reply) : (s.deliver r c a).crt = s.crt := by cases r <;> rfl
@[simp] theorem State.deliver_rse (s : State) (r : Requester) (c : Instr) (a : Reply) : (s.deliver r c a).rse = s.rse := by cases r <;> rfl
@[simp] theorem State.deliver_cmn (s : State) (r : Requester) (c : Instr) (a : Reply) : (s.deliver r c a).cmn = s.cmn := by cases r <;> rfl
@[simp] theorem State.deliver_cau (s : State) (r : Requester) (c : Instr) (a : Reply) : (s.deliver r c a).cau = s.cau := by cases r <;> rfl
@[simp] theorem State.deliver_hru (s : State) (r : Requester) (c : Instr) (a : Reply) : (s.deliver r c a).hru = s.hru := by cases r <;> rfl
@[simp] theorem State.deliver_sts (s : State) (r : Requester) (c : Instr) (a : Reply) : (s.deliver r c a).sts = s.sts := by cases r <;> rfl
@[simp] theorem State.deliver_tmb (s : State) (r : Requester) (c : Instr) (a : Reply) : (s.deliver r c a).tmb = s.tmb := by cases r <;> rfl
@[simp] theorem State.deliver_pending (s : State) (r : Requester) (c : Instr) (a : Reply) : (s.deliver r c a).pending = s.pending := by cases r <;> rfl
@[simp] theorem State.deliver_group (s : State) (r : Requester) (c : Instr) (a : Reply) (g' : Nat) :
    (s.deliver r c a).group g' = s.group g' := by cases r <;> rfl
@[simp] theorem State.deliver_circuit (s : State) (r : Requester) (c : Instr) (a : Reply) (c' : Nat) :
    (s.deliver r c a).circuit c' = s.circuit c' := by cases r <;> rfl
@[simp] theorem State.deliver_call (s : State) (r : Requester) (c : Instr) (a : Reply) (i' : Nat) :
    (s.deliver r c a).call i' = s.call i' := by cases r <;> rfl
@[simp] theorem State.deliver_gen (s : State) (r : Requester) (c : Instr) (a : Reply) (i' : Nat) :
    (s.deliver r c a).gen i' = s.gen i' := by cases r <;> rfl
@[simp] theorem State.deliver_dest (s : State) (r : Requester) (c : Instr) (a : Reply) (d' : Nat) :
    (s.deliver r c a).dest d' = s.dest d' := by cases r <;> rfl
@[simp] theorem State.deliver_routeSet (s : State) (r : Requester) (c : Instr) (a : Reply) (n' : Nat) :
    (s.deliver r c a).routeSet n' = s.routeSet n' := by cases r <;> rfl
@[simp] theorem State.deliver_congestion (s : State) (r : Requester) (c : Instr) (a : Reply) (g' : Nat) :
    (s.deliver r c a).congestion g' = s.congestion g' := by cases r <;> rfl
@[simp] theorem State.deliver_agreement (s : State) (r : Requester) (c : Instr) (a : Reply) (c' : Nat) :
    (s.deliver r c a).agreement c' = s.agreement c' := by cases r <;> rfl
@[simp] theorem State.deliver_tariff (s : State) (r : Requester) (c : Instr) (a : Reply) (c' : Nat) (n' : Nat) :
    (s.deliver r c a).tariff c' n' = s.tariff c' n' := by cases r <;> rfl
@[simp] theorem State.deliver_pendingTariff (s : State) (r : Requester) (c : Instr) (a : Reply) (c' : Nat) (n' : Nat) :
    (s.deliver r c a).pendingTariff c' n' = s.pendingTariff c' n' := by cases r <;> rfl
@[simp] theorem State.deliver_bank (s : State) (r : Requester) (c : Instr) (a : Reply) (k' : BankId) :
    (s.deliver r c a).bank k' = s.bank k' := by cases r <;> rfl
@[simp] theorem State.deliver_now (s : State) (r : Requester) (c : Instr) (a : Reply) :
    (s.deliver r c a).now = s.now := by cases r <;> rfl
@[simp] theorem State.deliver_profile (s : State) (r : Requester) (c : Instr) (a : Reply) (n' : Nat) :
    (s.deliver r c a).profile n' = s.profile n' := by cases r <;> rfl
@[simp] theorem State.deliver_stagedProfile (s : State) (r : Requester) (c : Instr) (a : Reply) (n' : Nat) :
    (s.deliver r c a).stagedProfile n' = s.stagedProfile n' := by cases r <;> rfl

/-! ### Reading after writing -/

@[simp] theorem State.setPort_port (s : State) (p : PortId) (q : Port) (p' : PortId) :
    (s.setPort p q).port p' = if p' = p then q else s.port p' := by
  cases p <;> cases p' <;> rfl

@[simp] theorem State.mapPorts_port (s : State) (f : Port → Port) (p : PortId) :
    (s.mapPorts f).port p = f (s.port p) := by
  cases p <;> rfl

@[simp] theorem State.raiseAll_port (s : State) (b : NoticeBody) (p : PortId) :
    (s.raiseAll b).port p = offerNotice ⟨b, s.noticeStamp⟩ (s.port p) := by
  cases p <;> rfl

@[simp] theorem State.raiseTo_port (s : State) (p : PortId) (b : NoticeBody) (p' : PortId) :
    (s.raiseTo p b).port p' = if p' = p then offerNotice ⟨b, s.noticeStamp⟩ (s.port p) else s.port p' := by
  simp [State.raiseTo]

@[simp] theorem State.setGroup_group (s : State) (g : Nat) (r : Option Group) (g' : Nat) :
    (s.setGroup g r).group g' = if g' = g then r else s.group g' :=
  Table.get_set none s.cpl.groups g r g'

@[simp] theorem State.setCircuit_circuit (s : State) (c : Nat) (v : Circuit) (c' : Nat) :
    (s.setCircuit c v).circuit c' = if c' = c then v else s.circuit c' :=
  Table.get_set Circuit.idle s.cpl.circuits c v c'

@[simp] theorem State.setCall_call (s : State) (i : Nat) (r : Option CallRecord) (i' : Nat) :
    (s.setCall i r).call i' = if i' = i then r else s.call i' :=
  Table.get_set none s.crt.calls i r i'

@[simp] theorem State.setDest_dest (s : State) (d : Nat) (r : Dest) (d' : Nat) :
    (s.setDest d r).dest d' = if d' = d then r else s.dest d' :=
  Table.get_set Dest.reset s.rse.dests d r d'

@[simp] theorem State.setRestriction_dest (s : State) (d : Nat) (r : Option Restriction) (d' : Nat) :
    (s.setRestriction d r).dest d' = if d' = d then { s.dest d with restriction := r } else s.dest d' :=
  State.setDest_dest s d _ d'

@[simp] theorem State.setCongestion_congestion (s : State) (g : Nat) (r : CongestionRecord) (g' : Nat) :
    (s.setCongestion g r).congestion g' = if g' = g then r else s.congestion g' :=
  Table.get_set CongestionRecord.zero s.cmn.records g r g'

@[simp] theorem State.setAgreement_agreement (s : State) (c : Nat) (r : Agreement) (c' : Nat) :
    (s.setAgreement c r).agreement c' = if c' = c then r else s.agreement c' :=
  Table.get_set Agreement.reset s.cau.records c r c'

@[simp] theorem State.setBank_bank (s : State) (k : BankId) (b : Bank) (k' : BankId) :
    (s.setBank k b).bank k' = if k' = k then b else s.bank k' := by
  cases k <;> cases k' <;> rfl

@[simp] theorem State.setBank_activeBank (s : State) (k : BankId) (b : Bank) :
    (s.setBank k b).sts.activeBank = s.sts.activeBank := by cases k <;> rfl

@[simp] theorem State.setBank_closeDeferred (s : State) (k : BankId) (b : Bank) :
    (s.setBank k b).sts.closeDeferred = s.sts.closeDeferred := by cases k <;> rfl

@[simp] theorem State.setBank_autoClose (s : State) (k : BankId) (b : Bank) :
    (s.setBank k b).sts.autoClose = s.sts.autoClose := by cases k <;> rfl

@[simp] theorem State.setBank_closeDue (s : State) (k : BankId) (b : Bank) :
    (s.setBank k b).sts.closeDue = s.sts.closeDue := by cases k <;> rfl

@[simp] theorem otherBank_ne (k : BankId) : otherBank k ≠ k := by cases k <;> decide

@[simp] theorem otherBank_otherBank (k : BankId) : otherBank (otherBank k) = k := by cases k <;> rfl

/-- A carrier slot's place in the tariff table is its own. -/
theorem tariffKey_inj (c n c' n' : Nat) (h : n ≤ 3) (h' : n' ≤ 3) :
    tariffKey c n = tariffKey c' n' ↔ c = c' ∧ n = n' := by
  unfold tariffKey; omega

theorem State.setPendingTariff_pendingTariff (s : State) (c n : Nat) (v : TariffClass) (c' n' : Nat) :
    (s.setPendingTariff c n v).pendingTariff c' n'
      = if tariffKey c' n' = tariffKey c n then v else s.pendingTariff c' n' :=
  Table.get_set resetTariff s.hru.pendingClasses (tariffKey c n) v (tariffKey c' n')

/-- A record update that keeps a block keeps what is read from it. -/
theorem State.carrierOf_congr (s t : State) (h : t.cpl.groups = s.cpl.groups) (g : Nat) :
    t.carrierOf g = s.carrierOf g := by
  simp only [State.carrierOf, State.group, h]

/-- Two states with the same port states have the same ports. -/
theorem State.pct_ext (s t : State) (h : ∀ p, t.port p = s.port p) : t.pct = s.pct := by
  have h0 : t.pct.p0 = s.pct.p0 := h .p0
  have h1 : t.pct.p1 = s.pct.p1 := h .p1
  have h2 : t.pct.p2 = s.pct.p2 := h .p2
  have h3 : t.pct.p3 = s.pct.p3 := h .p3
  show (⟨t.pct.p0, t.pct.p1, t.pct.p2, t.pct.p3⟩ : Ports) = ⟨s.pct.p0, s.pct.p1, s.pct.p2, s.pct.p3⟩
  rw [h0, h1, h2, h3]

end Sys2Proof.Machine
end

