-- ==== Sys2Proof/Laws/Ports.lean ====
section
/-! SUPPORT. What the operations on one port leave as it was, and everything that serving a request, an event and the delivery of a reply can do. -/

namespace Sys2Proof.Machine

/-! ### Operations on one port -/

@[simp] theorem attended_role (q : Port) : (attended q).role = q.role := rfl
@[simp] theorem attended_line (q : Port) : (attended q).line = q.line := rfl
@[simp] theorem attended_goodSince (q : Port) : (attended q).goodSince = q.goodSince := rfl
@[simp] theorem attended_link (q : Port) : (attended q).link = q.link := rfl
@[simp] theorem attended_fifo (q : Port) : (attended q).fifo = q.fifo := rfl
@[simp] theorem attended_stage (q : Port) : (attended q).stage = q.stage := rfl
@[simp] theorem attended_headAt (q : Port) : (attended q).headAt = q.headAt := rfl
@[simp] theorem attended_replies (q : Port) : (attended q).replies = q.replies := rfl
@[simp] theorem attended_notices (q : Port) : (attended q).notices = q.notices := rfl
@[simp] theorem attended_mask (q : Port) : (attended q).mask = q.mask := rfl
@[simp] theorem attended_detached (q : Port) : (attended q).detached = q.detached := rfl
@[simp] theorem attended_attention (q : Port) :
    (attended q).attention = (decide (q.link = .up) && !q.notices.isEmpty) := rfl

/-- A notice that is offered touches nothing but the notice queue, the attention line and NOTICE_LOST. -/
theorem offerNotice_spec (n : Notice) (q : Port) :
    ∃ notices attention lost,
      offerNotice n q = { q with notices := notices, attention := attention, noticeLost := lost } := by
  unfold offerNotice
  split
  · exact ⟨q.notices, q.attention, q.noticeLost, rfl⟩
  · split
    · exact ⟨q.notices, q.attention, q.noticeLost, rfl⟩
    · split
      · exact ⟨q.notices ++ [n], _, q.noticeLost, rfl⟩
      · exact ⟨q.notices, q.attention, true, rfl⟩

@[simp] theorem offerNotice_role (n : Notice) (q : Port) : (offerNotice n q).role = q.role := by
  obtain ⟨_, _, _, h⟩ := offerNotice_spec n q; rw [h]
@[simp] theorem offerNotice_line (n : Notice) (q : Port) : (offerNotice n q).line = q.line := by
  obtain ⟨_, _, _, h⟩ := offerNotice_spec n q; rw [h]
@[simp] theorem offerNotice_goodSince (n : Notice) (q : Port) :
    (offerNotice n q).goodSince = q.goodSince := by
  obtain ⟨_, _, _, h⟩ := offerNotice_spec n q; rw [h]
@[simp] theorem offerNotice_link (n : Notice) (q : Port) : (offerNotice n q).link = q.link := by
  obtain ⟨_, _, _, h⟩ := offerNotice_spec n q; rw [h]
@[simp] theorem offerNotice_fifo (n : Notice) (q : Port) : (offerNotice n q).fifo = q.fifo := by
  obtain ⟨_, _, _, h⟩ := offerNotice_spec n q; rw [h]
@[simp] theorem offerNotice_stage (n : Notice) (q : Port) : (offerNotice n q).stage = q.stage := by
  obtain ⟨_, _, _, h⟩ := offerNotice_spec n q; rw [h]
@[simp] theorem offerNotice_headAt (n : Notice) (q : Port) : (offerNotice n q).headAt = q.headAt := by
  obtain ⟨_, _, _, h⟩ := offerNotice_spec n q; rw [h]
@[simp] theorem offerNotice_replies (n : Notice) (q : Port) : (offerNotice n q).replies = q.replies := by
  obtain ⟨_, _, _, h⟩ := offerNotice_spec n q; rw [h]
@[simp] theorem offerNotice_mask (n : Notice) (q : Port) : (offerNotice n q).mask = q.mask := by
  obtain ⟨_, _, _, h⟩ := offerNotice_spec n q; rw [h]
@[simp] theorem offerNotice_detached (n : Notice) (q : Port) :
    (offerNotice n q).detached = q.detached := by
  obtain ⟨_, _, _, h⟩ := offerNotice_spec n q; rw [h]

/-- The reply of a head touches nothing but the head stage and the reply list. -/
theorem answerHead_spec (a : Reply) (q : Port) :
    (q.fifo = [] ∧ answerHead a q = q)
      ∨ ∃ h rest, q.fifo = h :: rest
        ∧ answerHead a q = { q with stage := .answered, replies := q.replies ++ [⟨false, replyFrame h.tag a⟩] } := by
  unfold answerHead
  split
  · exact .inl ⟨by assumption, rfl⟩
  · exact .inr ⟨_, _, by assumption, rfl⟩

/-- Everything that the examination of a new head can do: the stage, the time of becoming head and the reply list may change, and nothing else. -/
theorem checkHead_spec (now : Nat) (q : Port) :
    ∃ stage headAt replies, checkHead now q = { q with stage := stage, headAt := headAt, replies := replies } := by
  unfold checkHead
  split
  · exact ⟨_, _, _, rfl⟩
  · split
    · unfold answerHead
      split <;> exact ⟨_, _, _, rfl⟩
    · exact ⟨_, _, _, rfl⟩

/-- When a link loss finds the head in service (R160, R168). -/
theorem headStage_inService (now : Nat) (q : Port) :
    q.headStage now = .inService ↔ q.stage = .inService ∨ (q.stage = .checked ∧ q.headAt < now) := by
  unfold Port.headStage
  split <;> simp_all

/-- A kept time within 48 bits is coded as it is. -/
theorem timeBytes_of_le (n : Nat) (h : n ≤ Config.maxCount48) : timeBytes n = beBytes 6 n := by
  rw [timeBytes, if_pos h]

/-- When the engine is free: no port has a request of RSE in service (R57). -/
theorem engineFree_iff (s : State) : s.engineFree = true ↔ ∀ p, engineServes (s.port p) = false := by
  simp only [State.engineFree, Bool.not_eq_true', List.any_eq_false, Bool.not_eq_true]
  exact ⟨fun h p => h p (by cases p <;> decide), fun h p _ => h p⟩

/-! ### Serving -/

/-- Everything that serving a request can do: it is served whole, or it does not stand in service and nothing happens. -/
theorem serve_next (r : Requester) (c : Instr) (f : State → Reply × State) (s t : State) :
    serve r c f s = .next t ↔
      (s.inService r c = true ∧ t = (f s).2.deliver r c (f s).1) ∨ (s.inService r c = false ∧ t = s) := by
  unfold serve
  split <;> rename_i h <;> simp [h, eq_comm]

/-- Everything that an event can do: it takes place, or it is not due and nothing happens. -/
theorem eventWhen_next (due : Bool) (f : State → State) (s t : State) :
    eventWhen due f s = .next t ↔ (due = true ∧ t = f s) ∨ (due = false ∧ t = s) := by
  unfold eventWhen
  split <;> rename_i h <;> simp [h, eq_comm]

/-- What the delivery of a reply does to the ports. -/
theorem deliver_port (s : State) (r : Requester) (c : Instr) (a : Reply) (p : PortId) :
    (s.deliver r c a).port p =
      if p = r.port then
        match r with
        | .head _ => answerHead a (s.port p)
        | .detached _ => { s.port p with detached := (s.port p).detached.eraseP (asksFor r c) }
      else s.port p := by
  cases r <;> simp only [State.deliver, State.setPort_port, Requester.port] <;> split <;> simp_all

/-- A request that stands with its block at a head is the head of a FIFO whose stage says so, and asks for the command. -/
theorem inService_head (s : State) (p : PortId) (c : Instr) (h : s.inService (.head p) c = true) :
    ((s.port p).stage = .inService ∨ (s.port p).stage = .checked)
      ∧ ∃ q rest, (s.port p).fifo = q :: rest ∧ asksFor (.head p) c q = true := by
  simp only [State.inService, headInService, Bool.and_eq_true, decide_eq_true_eq] at h
  refine ⟨h.1, ?_⟩
  cases hf : (s.port p).fifo with
  | nil => simp [hf] at h
  | cons q rest => exact ⟨q, rest, rfl, by simpa [hf] using h.2⟩

/-- A request asks for the one command that its kind and body spell. -/
theorem asksFor_iff (r : Requester) (c : Instr) (q : Request) :
    asksFor r c q = true ↔ ∃ k, kindOf q.kind.toNat = some k ∧ commandOf r k q.body = c := by
  unfold asksFor
  split <;> rename_i h <;> simp [h]

/-! ### Fields of bodies (R172) -/

theorem beNat_append (l : List Byte) (b : Byte) : beNat (l ++ [b]) = beNat l * 256 + b.toNat := by
  simp [beNat]

/-- A run of `w` bytes codes a number below 256 to the power `w`. -/
theorem beNat_lt (l : List Byte) : beNat l < 256 ^ l.length := by
  induction l using List.reverseRecOn with
  | nil => simp [beNat]
  | append_singleton l b ih =>
    rw [beNat_append, List.length_append, List.length_singleton, pow_succ]
    have := b.isLt
    omega

/-- A field of `w` bytes holds a number below 256 to the power `w`. -/
theorem field_lt (body : List Byte) (off w : Nat) : field body off w < 256 ^ w := by
  refine lt_of_lt_of_le (beNat_lt _) (Nat.pow_le_pow_right (by omega) ?_)
  simp [List.length_take]

end Sys2Proof.Machine
end

