-- ==== Sys2Proof/Laws/Pool.lean ====
section
/-! SUPPORT. What the circuit pool and the call table do for each other, read through the accessors: the hunt, the take, the freeing of circuits and records, the walk, and the accumulation of a leg. -/

namespace Sys2Proof.Machine

/-! ### Circuits -/

theorem outboundHunt_some (g c : Nat) (s : State) (r : Group) (h : s.group g = some r) :
    outboundHunt g c s =
      (s.setGroup g (some { r with freeList := r.freeList.tail, busy := r.busy + 1 })).setCircuit c
        { s.circuit c with state := .reserved } := by
  simp only [outboundHunt, h]

theorem inboundTake_some (g c : Nat) (s : State) (r : Group) (h : s.group g = some r) :
    inboundTake g c s =
      (s.setGroup g (some { r with freeList := r.freeList.erase c, busy := r.busy + 1 })).setCircuit c
        { s.circuit c with state := .busy } := by
  simp only [inboundTake, h]

/-- Everything that freeing a circuit does, but for the notice of a completed drain. -/
theorem freeCircuit_circuit (g c : Nat) (s : State) (c' : Nat) :
    (freeCircuit g c s).circuit c' =
      if c' = c then circuitAfterFreeing (s.circuit c).mark else s.circuit c' := by
  simp only [freeCircuit]
  split
  · simp
  · split <;> simp

theorem freeCircuit_group (g c : Nat) (s : State) (g' : Nat) :
    (freeCircuit g c s).group g' =
      if g' = g then (s.group g).map (groupAfterFreeing c (s.circuit c).mark) else s.group g' := by
  simp only [freeCircuit]
  split
  · rename_i h
    by_cases hg : g' = g
    · subst hg; simp [h]
    · simp [hg]
  · rename_i r h
    by_cases hg : g' = g
    · subst hg; split <;> simp [h]
    · split <;> simp [hg]

/-- What is not CPL's nor PCT's, freeing a circuit leaves. -/
theorem freeCircuit_frame (g c : Nat) (s : State) :
    (freeCircuit g c s).crt = s.crt ∧ (freeCircuit g c s).rse = s.rse ∧ (freeCircuit g c s).cmn = s.cmn
      ∧ (freeCircuit g c s).cau = s.cau ∧ (freeCircuit g c s).hru = s.hru ∧ (freeCircuit g c s).sts = s.sts
      ∧ (freeCircuit g c s).tmb = s.tmb ∧ (freeCircuit g c s).pending = s.pending := by
  simp only [freeCircuit]
  split
  · simp
  · split <;> simp

/-- A circuit freed raises GROUP_DRAINED exactly when it completes a drain. -/
theorem freeCircuit_pct (g c : Nat) (s : State) :
    (freeCircuit g c s).pct =
      if (s.group g).any completesDrain then (s.raiseAll (.groupDrained g)).pct else s.pct := by
  simp only [freeCircuit]
  split
  · rename_i h
    simp [h]
  · rename_i r h
    simp only [h, Option.any_some]
    split
    · refine State.pct_ext _ _ fun p => ?_
      simp [State.noticeStamp]
    · simp

/-- A CIRCUIT_MAINT keeps every block but CPL. -/
theorem moveCircuit_frame (g c : Nat) (v : Circuit) (l : List Nat → List Nat) (s : State) :
    (moveCircuit g c v l s).pct = s.pct ∧ (moveCircuit g c v l s).crt = s.crt
      ∧ (moveCircuit g c v l s).rse = s.rse ∧ (moveCircuit g c v l s).cmn = s.cmn
      ∧ (moveCircuit g c v l s).cau = s.cau ∧ (moveCircuit g c v l s).hru = s.hru
      ∧ (moveCircuit g c v l s).sts = s.sts ∧ (moveCircuit g c v l s).tmb = s.tmb
      ∧ (moveCircuit g c v l s).pending = s.pending := by
  unfold moveCircuit
  split <;> simp

/-! ### Records -/

theorem freeRecord_call (i : Nat) (s : State) (i' : Nat) :
    (freeRecord i s).call i' = if i' = i then none else s.call i' :=
  State.setCall_call s i none i'

theorem freeRecord_gen (i : Nat) (s : State) (i' : Nat) :
    (freeRecord i s).gen i' = if i' = i then nextGen (s.gen i) else s.gen i' :=
  Table.get_set 0 s.crt.gens i (nextGen (s.gen i)) i'

@[simp] theorem freeRecord_queue (i : Nat) (s : State) :
    queueList (freeRecord i s).crt.queue = queueList s.crt.queue ++ [i] := by
  simp [freeRecord, queuePush, queueList]

@[simp] theorem freeRecord_pct (i : Nat) (s : State) : (freeRecord i s).pct = s.pct := rfl
@[simp] theorem freeRecord_cpl (i : Nat) (s : State) : (freeRecord i s).cpl = s.cpl := rfl
@[simp] theorem freeRecord_rse (i : Nat) (s : State) : (freeRecord i s).rse = s.rse := rfl
@[simp] theorem freeRecord_cmn (i : Nat) (s : State) : (freeRecord i s).cmn = s.cmn := rfl
@[simp] theorem freeRecord_cau (i : Nat) (s : State) : (freeRecord i s).cau = s.cau := rfl
@[simp] theorem freeRecord_hru (i : Nat) (s : State) : (freeRecord i s).hru = s.hru := rfl
@[simp] theorem freeRecord_sts (i : Nat) (s : State) : (freeRecord i s).sts = s.sts := rfl
@[simp] theorem freeRecord_tmb (i : Nat) (s : State) : (freeRecord i s).tmb = s.tmb := rfl
@[simp] theorem freeRecord_pending (i : Nat) (s : State) : (freeRecord i s).pending = s.pending := rfl

theorem freeOutbound_frame (r : CallRecord) (s : State) :
    (freeOutbound r s).crt = s.crt ∧ (freeOutbound r s).rse = s.rse ∧ (freeOutbound r s).cmn = s.cmn
      ∧ (freeOutbound r s).cau = s.cau ∧ (freeOutbound r s).hru = s.hru ∧ (freeOutbound r s).sts = s.sts
      ∧ (freeOutbound r s).tmb = s.tmb ∧ (freeOutbound r s).pending = s.pending := by
  unfold freeOutbound
  split
  · exact freeCircuit_frame _ _ _
  · simp

theorem freeInbound_frame (r : CallRecord) (s : State) :
    (freeInbound r s).crt = s.crt ∧ (freeInbound r s).rse = s.rse ∧ (freeInbound r s).cmn = s.cmn
      ∧ (freeInbound r s).cau = s.cau ∧ (freeInbound r s).hru = s.hru ∧ (freeInbound r s).sts = s.sts
      ∧ (freeInbound r s).tmb = s.tmb ∧ (freeInbound r s).pending = s.pending := by
  unfold freeInbound
  split
  · exact freeCircuit_frame _ _ _
  · simp

/-- The queue's head is the head of the list of free indices. -/
theorem queueHead_eq (q : FreeQueue) : queueHead q = (queueList q).head? := by
  unfold queueHead queueList
  split
  · rename_i h
    obtain ⟨n, hn⟩ : ∃ n, Config.callRecords - q.fresh = n + 1 := ⟨Config.callRecords - q.fresh - 1, by omega⟩
    rw [hn]; rfl
  · rename_i h
    rw [Nat.sub_eq_zero_of_le (by omega)]
    rfl

/-- Taking the head leaves the rest. -/
theorem queuePop_list (q : FreeQueue) : queueList (queuePop q) = (queueList q).tail := by
  unfold queuePop
  split
  · rename_i h
    unfold queueList
    obtain ⟨n, hn⟩ : ∃ n, Config.callRecords - q.fresh = n + 1 := ⟨Config.callRecords - q.fresh - 1, by omega⟩
    have hn' : Config.callRecords - (q.fresh + 1) = n := by omega
    simp only [hn, hn']
    rfl
  · rename_i h
    unfold queueList
    simp only [Nat.sub_eq_zero_of_le (show Config.callRecords ≤ q.fresh by omega)]
    rfl

/-! ### Accumulation and the walk -/

/-- A leg added to the ACTIVE bank touches nothing but STS. -/
theorem accumulate_frame (leg : RatedLeg) (s : State) :
    ∃ sts, accumulate leg s = { s with sts := sts } := ⟨_, rfl⟩

/-- The walk touches nothing but the counts of the groups that it examines. -/
theorem selectRoute_frame (dest : Nat) (cls : CallClass) (inbound : Option Nat) (s : State) :
    ∃ records, (selectRoute dest cls inbound s).2 = { s with cmn := { s.cmn with records := records } } := by
  unfold selectRoute
  simp only
  split
  · exact ⟨s.cmn.records, rfl⟩
  · split
    · exact ⟨s.cmn.records, rfl⟩
    · exact ⟨_, rfl⟩

end Sys2Proof.Machine
end

