-- ==== Sys2Proof/Tests/Slice0.lean ====
section
/-! SUPPORT. Tests of this model: the well-formedness checks, values worked in the spec, one small step for the commands most easily got wrong, and for each statement of `Obligations` with hypotheses a state and operands that meet them, with a witness for each of its clauses. -/

set_option maxRecDepth 20000

namespace Sys2Proof.Machine.Slice0

/-! ### A small exchange -/

/-- A port of role BOTH whose link is UP. -/
def upPort : Port := { Port.reset .both with line := .good, link := .up }

/-- Group 0, FAR_WINS: circuit 0 RESERVED, 1 IDLE, 2 BUSY and marked, 3 MAINT. -/
def group0 : Group := ⟨0, 4, .bothway, 0, .farWins, 1, 0, .inService, [1], 2⟩
/-- Group 1 of carrier 1, LOCAL_WINS: circuits 4 and 6 BUSY, 5 RESERVED, 8 IDLE, 7 MAINT. -/
def group1 : Group := ⟨4, 5, .bothway, 1, .localWins, 0, 0, .inService, [8], 3⟩
/-- Group 2, OUTGOING and BLOCKED. -/
def group2 : Group := ⟨9, 1, .outgoing, 0, .localWins, 0, 0, .blocked, [9], 0⟩
/-- Group 3, OUTGOING and idle. -/
def group3 : Group := ⟨10, 1, .outgoing, 0, .localWins, 0, 7, .inService, [10], 0⟩
/-- Group 4, DRAINING, its one circuit held. -/
def group4 : Group := ⟨11, 1, .bothway, 0, .localWins, 0, 0, .draining, [], 1⟩
/-- Group 255 at the top of the circuit numbers, its reserve equal to its count. -/
def group255 : Group := ⟨16383, 1, .bothway, 0, .localWins, 1, 0, .inService, [16383], 0⟩

/-- RESERVED, owned by P0, on circuit 0. -/
def call0 : CallRecord :=
  ⟨.reserved, .p0, 0, .ordinary, none, some ⟨0, 0, 1, false, 0, none⟩, some 9000, none⟩
/-- SEIZED, owned by P0, from circuit 4 to circuit 2. -/
def call1 : CallRecord :=
  ⟨.seized, .p0, 0, .priority, some ⟨1, 4, 0, some 0⟩, some ⟨0, 2, 0, true, 0, none⟩, none, none⟩
/-- RESERVED, owned by P1, on circuit 5. -/
def call2 : CallRecord :=
  ⟨.reserved, .p1, 3, .low, none, some ⟨1, 5, 0, true, 0, some 1⟩, some 8500, none⟩
/-- ANSWERED, owned by P0, on circuit 6. -/
def call3 : CallRecord :=
  ⟨.answered, .p0, 3, .ordinary, none, some ⟨1, 6, 0, true, 2, some 1⟩, none, some ⟨1000, 2⟩⟩
/-- DISPLACED, owned by P0, its inbound circuit 11. -/
def call4 : CallRecord :=
  ⟨.displaced, .p0, 0, .ordinary, some ⟨4, 11, 0, none⟩, none, some 9000, none⟩

/-- Destination 0: rank 1 rotates over positions 1 and 2. -/
def dest0 : Dest := ⟨[⟨.direct 3, 0, false⟩, ⟨.chained 0, 1, false⟩, ⟨.direct 0, 1, false⟩], 2, [(1, [2, 1])], none⟩
/-- Destination 1, RESTRICTED to one ordinary call in 500 ms. -/
def dest1 : Dest := ⟨[⟨.direct 3, 0, false⟩], 0, [], some ⟨5, 6500, some 6000, 66000⟩⟩

/-- The exchange at running time 6000. Group 4 is DRAINING with one circuit held, so freeing it completes the drain. -/
def site : State :=
  { pct := ⟨upPort, upPort, upPort, upPort⟩
    cpl := ⟨[(0, some group0), (1, some group1), (2, some group2), (3, some group3), (4, some group4),
        (255, some group255)],
      [(0, ⟨.reserved, false⟩), (2, ⟨.busy, true⟩), (3, ⟨.maint, false⟩), (4, ⟨.busy, false⟩),
        (5, ⟨.reserved, false⟩), (6, ⟨.busy, false⟩), (7, ⟨.maint, false⟩), (11, ⟨.busy, false⟩)]⟩
    crt := ⟨[(0, some call0), (1, some call1), (2, some call2), (3, some call3), (4, some call4)], [(3, 255)],
      ⟨5, []⟩, 8⟩
    rse := ⟨[(0, dest0), (1, dest1), (2, ⟨[⟨.direct 2, 0, false⟩], 0, [], none⟩),
        (3, ⟨[⟨.direct 1, 0, false⟩], 0, [], none⟩), (4095, ⟨[⟨.direct 255, 7, true⟩], 0, [], none⟩)],
      [(0, [0, 1]), (511, [3])], .p3⟩
    cmn := ⟨[(0, ⟨4096, 3, 4, 4, 3⟩), (1, ⟨100, 0, 2, 0, 1⟩)], [], [(7, ⟨1, 2, 4096, 1023, 4⟩)], 1, 3, 10000⟩
    cau := ⟨[(1, ⟨[1], some [1], .confirmed 1⟩), (2, ⟨[2, 1], some [1, 2], .matched 2⟩), (63, ⟨[3], none, .offerHeld⟩)]⟩
    hru := ⟨[], [(tariffKey 63 3, ⟨1, 1, 255, 1, 1, 1, 1, 1, 1, 1⟩)], [⟨0, 2⟩, ⟨86399, 3⟩], [⟨100, 1⟩]⟩
    sts := ⟨⟨.active 65535 ⟨0, 0⟩, [(1, ⟨5, 0, 1, 0, 0, 1, false⟩)]⟩, ⟨.collectable 65534 ⟨0, 0⟩ ⟨0, 0⟩, []⟩, .a,
      false, some 86399, false⟩
    tmb := ⟨6000, 0, 6, 0⟩
    pending := [] }

/-- The exchange with the request for a command handed on at its port. -/
def ask (c : Instr) (s : State) : State :=
  match c.requester?, bodyOf c with
  | some (.head p), some (k, b) =>
    s.setPort p { s.port p with
      fifo := [⟨9, BitVec.ofNat 8 (kindCode k), b⟩]
      stage := if kindOwner k = .rse then .inService else .checked }
  | some (.detached p), some (k, b) =>
    s.setPort p { s.port p with detached := [⟨9, BitVec.ofNat 8 (kindCode k), b⟩] }
  | _, _ => s

/-- P0, the port of most of the requests below. -/
def p0 : Requester := .head .p0

/-- A command's request in service in the exchange. -/
abbrev asked (c : Instr) : State := ask c site

theorem site_tables : site.TablesInv := tablesInv_of_check _ (by decide)
theorem site_queue : site.QueueInv := queueInv_of_check _ (by decide) site_tables
theorem site_pool : site.PoolInv := poolInv_of_check _ (by decide)

/-- A request touches PCT only, so the tables, the queue and the pool stand as they were. -/
theorem ask_only_pct (c : Instr) (s : State) : ∃ q, ask c s = { s with pct := q } := by
  unfold ask
  split
  · exact ⟨_, rfl⟩
  · exact ⟨_, rfl⟩
  · exact ⟨s.pct, rfl⟩

theorem ask_tables (c : Instr) (s : State) (h : s.TablesInv) : (ask c s).TablesInv := by
  obtain ⟨q, e⟩ := ask_only_pct c s
  rw [e]
  exact ⟨h.groups, h.circuits, h.calls, h.gens, h.dests, h.orders, h.sets, h.congestion, h.inForce, h.staged,
    h.agreements, h.tariffs, h.pendingTariffs, h.bankA, h.bankB⟩

theorem ask_queue (c : Instr) (s : State) (h : s.QueueInv) : (ask c s).QueueInv := by
  obtain ⟨q, e⟩ := ask_only_pct c s
  rw [e]
  exact ⟨h.nodup, h.free, h.gens⟩

theorem ask_pool (c : Instr) (s : State) (h : s.PoolInv) : (ask c s).PoolInv := by
  obtain ⟨q, e⟩ := ask_only_pct c s
  rw [e]
  exact ⟨fun g r hg => ⟨(h.groups g r hg).range, (h.groups g r hg).free_nodup, (h.groups g r hg).free,
      (h.groups g r hg).busy, (h.groups g r hg).blocked, (h.groups g r hg).draining⟩,
    h.apart, h.assigned, h.marks,
    fun i r hi => ⟨(h.calls i r hi).shape, (h.calls i r hi).circuits_nodup, (h.calls i r hi).outbound,
      (h.calls i r hi).inbound⟩, h.held, h.once⟩

theorem asked_tables (c : Instr) : (asked c).TablesInv := ask_tables c _ site_tables
theorem asked_queue (c : Instr) : (asked c).QueueInv := ask_queue c _ site_queue
theorem asked_pool (c : Instr) : (asked c).PoolInv := ask_pool c _ site_pool

/-! ### Ill-formed commands: each check refuses one -/

theorem test_wf_accepts_boundary_values :
    [Instr.guardExpiry 16383, .gapExpiry 4095, .restrictionEnd 4095, .route p0 65535 255 (some 65534),
      .route p0 0 0 none, .confirm p0 65535 255, .setGuard p0 255, .defineGroupDefine p0 255 ⟨65535, 1888, 255, 255, 255,
        65535, 255, [65535, 67422]⟩, .defineGroupRemove p0 255 255, .writeDest p0 65535 255 (List.replicate 48 ⟨255, 65535,
        255, 255⟩), .writeRouteSet p0 65535 (List.replicate 81 ⟨255, 65535⟩), .writeLocalOffer p0 255 (List.replicate 246 255),
      .writeBands p0 (List.replicate 61 ⟨16777215, 255⟩), .setTime p0 65535 16777215 65535,
      .readGroupSummary p0 255 3, .readCongestionPeriod p0 255, .setAutoCloseSecond p0 255 16777215].all
      (fun c => c.wf) = true := by decide
theorem test_wf_refuses_events :
    [Instr.guardExpiry 16384, .gapExpiry 4096, .restrictionEnd 4096].all (fun c => !c.wf) = true := by decide
theorem test_wf_refuses_call_requests :
    [Instr.route p0 65536 0 none, .route p0 0 256 none, .route p0 0 0 (some 65535), .confirm p0 65536 0,
      .confirm p0 0 256, .answer p0 65536 0, .answer p0 0 256, .release p0 65536 0, .release p0 0 256,
      .reroute p0 65536 0, .reroute p0 0 256, .queryCall p0 65536 0, .queryCall p0 0 256, .setGuard p0 256,
      .adoptPort p0 256 0, .adoptPort p0 0 256].all (fun c => !c.wf) = true := by decide
theorem test_wf_refuses_define_forms :
    [Instr.defineGroupDefine p0 256 ⟨0, 1, 0, 0, 0, 0, 0, []⟩, .defineGroupDefine p0 0 ⟨65536, 1, 0, 0, 0, 0, 0, []⟩,
      .defineGroupDefine p0 0 ⟨0, 65536, 0, 0, 0, 0, 0, []⟩, .defineGroupDefine p0 0 ⟨0, 1, 256, 0, 0, 0, 0, []⟩,
      .defineGroupDefine p0 0 ⟨0, 1, 0, 256, 0, 0, 0, []⟩, .defineGroupDefine p0 0 ⟨0, 1, 0, 0, 256, 0, 0, []⟩,
      .defineGroupDefine p0 0 ⟨0, 1, 0, 0, 0, 65536, 0, []⟩, .defineGroupDefine p0 0 ⟨0, 1, 0, 0, 0, 0, 256, []⟩,
      .defineGroupDefine p0 0 ⟨4, 4, 0, 0, 0, 0, 0, [3]⟩, .defineGroupDefine p0 0 ⟨4, 4, 0, 0, 0, 0, 0, [12]⟩,
      .defineGroupDefine p0 0 ⟨4, 4, 0, 0, 0, 0, 0, [5, 4]⟩, .defineGroupDefine p0 0 ⟨4, 4, 0, 0, 0, 0, 0, [5, 5]⟩,
      .defineGroupDefine p0 0 ⟨0, 1889, 0, 0, 0, 0, 0, []⟩].all (fun c => !c.wf) = true := by decide
theorem test_wf_refuses_group_requests :
    [Instr.defineGroupRemove p0 256 1, .defineGroupRemove p0 0 256, .defineGroupRemove p0 0 0, .setGroupStateBlock p0 256,
      .setGroupStateUnblock p0 256 1, .setGroupStateUnblock p0 0 256, .setGroupStateUnblock p0 0 0, .setReserve p0 256 0,
      .setReserve p0 0 65536, .circuitMaintOut p0 65536, .circuitMaintReturn p0 65536 1, .circuitMaintReturn p0 0 256,
      .circuitMaintReturn p0 0 0, .readGroupSummary p0 256 0, .readGroupSummary p0 0 256, .readGroupSummary p0 0 1,
      .readGroupSummary p0 0 2, .readGroupCircuit p0 256 0 0, .readGroupCircuit p0 0 65536 0, .readGroupCircuit p0 0 0 256,
      .readGroupFreeList p0 256 0 0, .readGroupFreeList p0 0 65536 0, .readGroupFreeList p0 0 0 256].all
      (fun c => !c.wf) = true := by decide
theorem test_wf_refuses_routing_requests :
    [Instr.writeDest p0 65536 0 [], .writeDest p0 0 0 [⟨256, 0, 0, 0⟩], .writeDest p0 0 0 [⟨0, 65536, 0, 0⟩],
      .writeDest p0 0 0 [⟨0, 0, 256, 0⟩], .writeDest p0 0 0 [⟨0, 0, 0, 256⟩],
      .writeDest p0 0 0 (List.replicate 49 ⟨0, 0, 0, 0⟩), .writeRouteSet p0 65536 [], .writeRouteSet p0 0 [⟨256, 0⟩],
      .writeRouteSet p0 0 [⟨0, 65536⟩], .writeRouteSet p0 0 (List.replicate 82 ⟨0, 0⟩), .maskChoice p0 65536 0 0,
      .maskChoice p0 0 256 0, .maskChoice p0 0 0 256, .setFirst p0 65536 0, .setFirst p0 0 256,
      .readDestDestination p0 65536, .readDestRouteSet p0 256 0, .readDestRouteSet p0 1 65536, .readDestRouteSet p0 0 0,
      .farCongestion p0 65536 0 0, .farCongestion p0 0 65536 0, .farCongestion p0 0 0 65536, .farClear p0 65536].all
      (fun c => !c.wf) = true := by decide
theorem test_wf_refuses_congestion_and_agreement_requests :
    [Instr.writeProfile p0 256 ⟨1, 2, 3, 0, 0⟩, .writeProfile p0 0 ⟨65536, 2, 3, 0, 0⟩, .writeProfile p0 0 ⟨1, 65536, 3, 0, 0⟩,
      .writeProfile p0 0 ⟨1, 2, 65536, 0, 0⟩, .writeProfile p0 0 ⟨1, 2, 3, 65536, 0⟩, .writeProfile p0 0 ⟨1, 2, 3, 0, 256⟩,
      .setPeriod p0 256, .readCongestionGroup p0 256 0, .readCongestionGroup p0 0 256, .readCongestionProfile p0 256,
      .readCongestionPeriod p0 256, .readCongestionPeriod p0 0, .readCongestionPeriod p0 1, .writeLocalOffer p0 256 [],
      .writeLocalOffer p0 0 [256], .writeLocalOffer p0 0 (List.replicate 247 0), .writeCarrierOffer p0 256 [],
      .writeCarrierOffer p0 0 [256], .writeCarrierOffer p0 0 (List.replicate 247 0), .confirmAgreement p0 256 0,
      .confirmAgreement p0 0 256, .withdrawAgreement p0 256, .readAgreement p0 256 0, .readAgreement p0 0 256].all
      (fun c => !c.wf) = true := by decide
theorem test_wf_refuses_tariffs :
    [(⟨65536, 0, 0, 0, 0, 0, 0, 0, 0, 0⟩ : TariffClass), ⟨0, 65536, 0, 0, 0, 0, 0, 0, 0, 0⟩, ⟨0, 0, 65536, 0, 0, 0, 0, 0, 0, 0⟩,
      ⟨0, 0, 0, 65536, 0, 0, 0, 0, 0, 0⟩, ⟨0, 0, 0, 0, 65536, 0, 0, 0, 0, 0⟩, ⟨0, 0, 0, 0, 0, 65536, 0, 0, 0, 0⟩,
      ⟨0, 0, 0, 0, 0, 0, 65536, 0, 0, 0⟩, ⟨0, 0, 0, 0, 0, 0, 0, 256, 0, 0⟩, ⟨0, 0, 0, 0, 0, 0, 0, 0, 256, 0⟩,
      ⟨0, 0, 0, 0, 0, 0, 0, 0, 0, 256⟩].all (fun t => !(Instr.writeTariff p0 0 0 t).wf) = true := by decide
theorem test_wf_refuses_settlement_and_port_requests :
    [Instr.writeTariff p0 256 0 resetTariff, .writeTariff p0 0 256 resetTariff, .writeBands p0 [⟨16777216, 0⟩],
      .writeBands p0 [⟨0, 256⟩], .writeBands p0 (List.replicate 62 ⟨0, 0⟩), .readTariffClass p0 256 0 0,
      .readTariffClass p0 0 256 0, .readTariffClass p0 0 0 256, .readTariffBand p0 256 0, .readTariffBand p0 1 256,
      .readTariffBand p0 0 0, .setAutoCloseSecond p0 256 0, .setAutoCloseSecond p0 1 16777216, .setAutoCloseSecond p0 0 0,
      .readBank p0 256 0 0, .readBank p0 0 256 0, .readBank p0 0 0 256, .releaseBank p0 256, .setTime p0 65536 0 0,
      .setTime p0 0 16777216 0, .setTime p0 0 0 65536, .portStatus p0 256].all (fun c => !c.wf) = true := by decide

/-! ### Values worked in the spec -/

/-- The check word that R163 gives for the nine characters "123456789". -/
theorem test_crc_of_nine_digits :
    crcOf [0x31, 0x32, 0x33, 0x34, 0x35, 0x36, 0x37, 0x38, 0x39] = 0x29B1 := by decide
/-- The payable leg worked in 7.5. -/
theorem test_rating_of_the_payable_leg :
    rateLeg ⟨1200, 30, 2, 400, 600, 850, 300, 26, 77, 128⟩ .payable 7 2 2 .ordinary (some ⟨4800000, 2⟩) 4895400
      = ⟨.payable, 7, 2, true, 5984, 4, false⟩ := by decide
/-- The receivable leg worked in 7.5. -/
theorem test_rating_of_the_receivable_leg :
    rateLeg ⟨500, 60, 1, 300, 400, 600, 200, 20, 40, 70⟩ .receivable 12 0 3 .ordinary (some ⟨4800000, 2⟩) 4895400
      = ⟨.receivable, 12, 0, true, 2165, 2, false⟩ := by decide
/-- A duration of exactly 24 hours is not marked, and one millisecond more is clamped and marked (R125). -/
theorem test_long_call_begins_past_a_day :
    (rateLeg ⟨0, 1, 0, 1, 1, 1, 1, 0, 0, 0⟩ .payable 1 0 0 .low (some ⟨0, 0⟩) 86400000).longCall = false
      ∧ (rateLeg ⟨0, 1, 0, 1, 1, 1, 1, 0, 0, 0⟩ .payable 1 0 0 .low (some ⟨0, 0⟩) 86400001)
        = ⟨.payable, 1, 0, true, 86400, 86400, true⟩ := by decide
/-- The two examples of R89. -/
theorem test_index_steps_by_at_least_one : newIndex 4093 4096 4 = 4094 ∧ newIndex 100 95 4 = 99 := by decide
/-- A surcharge of exactly half a mu is rounded up (R128). -/
theorem test_surcharge_rounds_halves_up : surcharge 2 64 = 1 := by decide
/-- Resolution takes the first slot in the local list's order (R103). -/
theorem test_resolution_follows_list_order :
    resolved [3, 1] (some [1, 3]) = .matched 3 ∧ resolved [1, 3] (some [1, 3]) = .matched 1
      ∧ resolved [2] (some [1, 3]) = .mismatch := by decide
/-- SET_FIRST turns an order as the example of R54 says. -/
theorem test_turn_keeps_cyclic_order : turnTo 4 [1, 2, 4, 5] = [4, 5, 1, 2] ∧ turnTo 1 [1, 2, 4, 5] = [1, 2, 4, 5] := by
  decide
/-- The body of an IDENTIFY reply (R184). -/
theorem test_identify_reports_the_part :
    identify .p3 site = (⟨.done, [0x4B, 0x56, 0x0E, 0x38, 1, 3, 3]⟩, site) := by decide
/-- The table spells no command in bits. -/
theorem test_no_word_spells_a_command : decodeTableWord 16 0 = none ∧ decodeTableWord 0 0 = none := by decide
/-- An empty queue is idle, and the front command runs first. -/
theorem test_front_command_runs_first :
    step { site with pending := [.linkUp .p0, .periodEnd] } = .next { site with pending := [.periodEnd] } := rfl

/-! ### Small steps -/

/-- The state a step leaves, for reading a field of it. -/
def after (c : Instr) (s : State) : State :=
  match exec c s with
  | .next t => t
  | .fault _ => s
  | .refused _ => s

/-- An out form on the IDLE head and a return at the tail (R15, R16). -/
theorem test_maintenance_moves_a_circuit :
    ((after (.circuitMaintOut p0 1) (asked (.circuitMaintOut p0 1))).group 0).map (fun r => r.freeList) = some []
      ∧ ((after (.circuitMaintReturn p0 3 1) (asked (.circuitMaintReturn p0 3 1))).group 0).map (fun r => r.freeList)
        = some [1, 3] := by decide
/-- The reserve is clamped to the count (R14). -/
theorem test_reserve_is_clamped :
    ((after (.setReserve p0 0 65535) (asked (.setReserve p0 0 65535))).group 0).map (fun r => r.reserve) = some 4 := by
  decide
/-- A freed circuit that is marked goes to MAINT, and a drain completes (R13, R20). -/
theorem test_release_frees_by_the_mark :
    (after (.release p0 1 0) (asked (.release p0 1 0))).circuit 2 = ⟨.maint, false⟩
      ∧ ((after (.release p0 4 0) (asked (.release p0 4 0))).group 4).map (fun r => r.state) = some .blocked := by decide
/-- A generation of 255 goes to 0, and the index to the queue's tail (R25). -/
theorem test_generation_wraps :
    (after (.release p0 3 255) (asked (.release p0 3 255))).gen 3 = 0
      ∧ (after (.release p0 3 255) (asked (.release p0 3 255))).crt.queue.returned = [3] := by decide
/-- The call is placed on the head circuit of group 1 with the record at index 5 (R25, R28). -/
theorem test_route_takes_the_head_record :
    ((after (.route p0 3 2 none) (ask (.route p0 3 2 none) site)).call 5).map (fun r => r.deadline) = some (some 14000)
      ∧ (after (.route p0 3 2 none) (ask (.route p0 3 2 none) site)).circuit 8 = ⟨.reserved, false⟩ := by decide
/-- The winning position goes to the end of its rank's order (R66). -/
theorem test_rotation_moves_the_winner :
    ((after (.route p0 0 0 none) (ask (.route p0 0 0 none) (site.setGroup 3 none))).dest 0).orders = [(1, [1, 2])] := by
  decide
/-- An ordinary admission moves the next-admit time one interval on (R76). -/
theorem test_admission_moves_the_gap :
    ((after (.route p0 1 2 none) (ask (.route p0 1 2 none) { site with tmb := ⟨6500, 0, 6, 500⟩ })).dest 1).restriction
      = some ⟨5, 7000, some 6500, 66000⟩ := by decide
/-- A report with a larger interval moves the next-admit time from the last admission (R74). -/
theorem test_report_tightens_the_gap :
    ((after (.farCongestion p0 1 600 1) (asked (.farCongestion p0 1 600 1))).dest 1).restriction
      = some ⟨600, 66000, some 6000, 66000⟩ := by decide
/-- The last millisecond of the last day is followed by the first of day 0 (R147). -/
theorem test_the_day_wraps :
    (after .millisecondTick { site with tmb := ⟨6000, 65535, 86399, 999⟩ }).tmb = ⟨6001, 0, 0, 0⟩ := by decide
/-- The tick that enters the named second makes the automatic close due (R141). -/
theorem test_automatic_close_falls_due :
    (after .millisecondTick { site with tmb := ⟨6000, 3, 86398, 999⟩ }).sts.closeDue = true := by decide
/-- A close behind a COLLECTABLE bank is deferred; released, it is performed and the period number wraps (R137, R142). -/
theorem test_close_is_deferred_and_performed :
    (after (.closePeriod p0) (asked (.closePeriod p0))).sts.closeDeferred = true
      ∧ ((after (.releaseBank p0 1) (ask (.releaseBank p0 1) { site with sts := { site.sts with closeDeferred := true } })).bank
        .b).state = .active 0 ⟨0, 6⟩ := by decide
/-- A rated leg of call 3: no answer mark is lost, and carrier 1 gains the minimum of the reset class (R116, R136). -/
theorem test_release_adds_to_the_active_bank :
    ((after (.release p0 3 255) (asked (.release p0 3 255))).bank .a).record 1 = ⟨5, 0, 2, 0, 0, 2, false⟩ := by decide
/-- The third frame finds the FIFO full and is answered HOLD (R164). -/
theorem test_full_fifo_answers_hold :
    ((after (.frameArrival .p0 (requestFrame 7 0x55 []) false) (site.setPort .p0
      { upPort with fifo := [⟨1, 0x55, []⟩, ⟨2, 0x55, []⟩], stage := .inService })).port .p0).replies
      = [⟨true, [0x5A, 7, 0x80, 0, 0, 0xEE, 0xB7]⟩] := by decide
/-- A ROUTE that arrives waits for the engine, and the grant moves the pointer (R58, R166). -/
theorem test_engine_grants_the_waiting_port :
    (after .engineGrant (after (.frameArrival .p2 (requestFrame 7 0x10 [0, 0, 0, 255, 255]) false) site)).rse.pointer = .p2 := by
  decide
/-- A short body is answered BAD_REQUEST at once (R165, R170). -/
theorem test_short_body_is_bad_request :
    ((after (.frameArrival .p0 (requestFrame 7 0x10 []) false) site).port .p0).stage = .answered := by decide

/-! ### Witnesses: states and operands that meet the hypotheses of each statement -/

/-- The ROUTE from P0 to destination 3, a call of class ORDINARY. -/
abbrev route3 : Instr := .route p0 3 2 none

/-- P0 with a given FIFO and reply list. -/
def withPort (fifo : List Request) (stage : HeadStage) (replies : List ReplyFrame) : State :=
  site.setPort .p0 { upPort with fifo := fifo, stage := stage, replies := replies }

theorem witness_StepRunsTheFrontCommand :
    { site with pending := [.engineGrant] }.pending = [.engineGrant] ∧ site.pending = [] := by decide

theorem witness_EveryCommandCompletes :
    (Instr.identify p0).requester? = some p0 ∧ site.inService p0 (.identify p0) = false := by decide

theorem witness_EveryRequestInServiceIsAnswered :
    ((Instr.identify p0).requester? = some (.head .p0) ∧ ((asked (.identify p0)).port .p0).stage = .checked
      ∧ ((asked (.identify p0)).port .p0).fifo = [⟨9, 0x55, []⟩]
      ∧ asksFor (.head .p0) (.identify p0) ⟨9, 0x55, []⟩ = true)
    ∧ (route3.requester? = some (.head .p0) ∧ ((asked route3).port .p0).stage = .inService
      ∧ ((asked route3).port .p0).fifo = [⟨9, 0x10, [0, 3, 2, 255, 255]⟩]
      ∧ asksFor (.head .p0) route3 ⟨9, 0x10, [0, 3, 2, 255, 255]⟩ = true)
    ∧ (Instr.identify (.detached .p3)).requester? = some (.detached .p3)
      ∧ ((asked (.identify (.detached .p3))).port .p3).detached.any
        (asksFor (.detached .p3) (.identify (.detached .p3))) = true := by decide

/-- A request of another block that became head before the present millisecond, and a granted request of RSE. -/
theorem witness_LinkLossCostsOnlyTheReply :
    ((asked (.setGuard p0 60)).port .p0).link = .up
    ∧ (((asked (.setGuard p0 60)).port .p0).stage = .checked
      ∧ ((asked (.setGuard p0 60)).port .p0).headAt < (asked (.setGuard p0 60)).now)
    ∧ (asked (.setGuard p0 60)).inService (.head .p0) (commandOf (.head .p0) .setGuard [60]) = true
    ∧ (∃ t, exec (commandOf (.head .p0) .setGuard [60]) (asked (.setGuard p0 60)) = .next t)
    ∧ (∃ u, exec (commandOf (.detached .p0) .setGuard [60]) ((asked (.setGuard p0 60)).setPort .p0
      (lineLost (asked (.setGuard p0 60)).now ((asked (.setGuard p0 60)).port .p0))) = .next u)
    ∧ ((asked route3).port .p0).link = .up ∧ ((asked route3).port .p0).stage = .inService
    ∧ (asked route3).inService (.head .p0) (commandOf (.head .p0) .route [0, 3, 2, 255, 255]) = true
    ∧ (∃ t, exec (commandOf (.head .p0) .route [0, 3, 2, 255, 255]) (asked route3) = .next t)
    ∧ ∃ u, exec (commandOf (.detached .p0) .route [0, 3, 2, 255, 255])
      ((asked route3).setPort .p0 (lineLost (asked route3).now ((asked route3).port .p0))) = .next u :=
  ⟨by decide, by decide, by decide, ⟨_, rfl⟩, ⟨_, rfl⟩, by decide, by decide, by decide, ⟨_, rfl⟩, ⟨_, rfl⟩⟩
/-- A loss behind the arrival of a frame, with nothing and with a request in service, and behind the last byte of a served reply. -/
theorem witness_LinkLossCostsOnlyTheReply_meeting :
    ((site.port .p0).link = .up ∧ (site.port .p0).line = .good ∧ (site.port .p0).goodSince + 20 ≤ site.now
      ∧ (site.port .p0).stage = .noHead)
    ∧ (((asked (.setGuard p0 60)).port .p0).line = .good
      ∧ ((asked (.setGuard p0 60)).port .p0).goodSince + 20 ≤ (asked (.setGuard p0 60)).now)
    ∧ ((withPort [⟨1, 0x55, []⟩, ⟨2, 0x4A, [60]⟩] .answered [⟨false, []⟩]).port .p0).replies = ⟨false, []⟩ :: []
    ∧ ((withPort [⟨1, 0x55, []⟩, ⟨2, 0x4A, [60]⟩] .answered [⟨false, []⟩]).port .p0).line = .good := by decide

theorem witness_PowerOnResetSetsEveryBlock :
    (PortId.p3 = .p3 ∧ (⟨false, true⟩ : PinPair) = (⟨⟨true, true⟩, ⟨true, false⟩, ⟨false, false⟩, ⟨false, true⟩⟩ : RolePins).p3) := by
  decide

theorem witness_LineIndicationsMoveTheLink :
    ((asked (.identify p0)).port .p0).line = .good ∧ ((asked (.identify p0)).port .p0).link = .up
    ∧ ((site.setPort .p0 { upPort with link := .down }).port .p0).line = .good
    ∧ ((site.setPort .p0 { upPort with link := .down }).port .p0).link = .down
    ∧ (State.reset.port .p0).line = .lost
    ∧ [5980, 5981].all (fun since =>
      decide (((site.setPort .p0 { upPort with goodSince := since }).port .p0).line = .good
        ∧ ((site.setPort .p0 { upPort with goodSince := since }).port .p0).link = .up)) = true
    ∧ 5980 + 20 ≤ site.now ∧ site.now < 5981 + 20
    ∧ [5900, 5901].all (fun since =>
      decide (((site.setPort .p0 { upPort with link := .down, goodSince := since }).port .p0).link = .down
        ∧ ((site.setPort .p0 { upPort with link := .down, goodSince := since }).port .p0).line = .good
        ∧ ((site.setPort .p0 { upPort with link := .down, goodSince := since }).port .p0).role ≠ .off)) = true
    ∧ 5900 + 100 ≤ site.now ∧ site.now < 5901 + 100 := by decide

theorem witness_RequestsRoundTrip :
    (List.replicate 248 (255 : Byte)).length ≤ 248 ∧ (Instr.guardExpiry 16383).requester? = none
    ∧ (Instr.writeRouteSet p0 65535 (List.replicate 81 ⟨255, 65535⟩)).wf = true
    ∧ (Instr.writeRouteSet p0 65535 (List.replicate 81 ⟨255, 65535⟩)).requester? = some p0 := by decide

theorem witness_WellFormedFramesReachService :
    ((Instr.identify p0).wf = true ∧ (Instr.identify p0).requester? = some (.head .p0)
      ∧ bodyOf (.identify p0) = some (.identify, []) ∧ permits .identify (site.port .p0).role = true
      ∧ (site.port .p0).link = .up ∧ (site.port .p0).fifo = [] ∧ kindOwner .identify ≠ .rse)
    ∧ route3.wf = true ∧ route3.requester? = some (.head .p0)
      ∧ bodyOf route3 = some (.route, [0, 3, 2, 255, 255]) ∧ permits .route (site.port .p0).role = true
      ∧ kindOwner .route = .rse := by decide

theorem witness_ArrivingFramesMeetTheFifo :
    (State.reset.port .p0).link = .down ∧ (site.port .p0).link = .up ∧ intact [] false = false
    ∧ intact (requestFrame 7 0x55 []) false = true
    ∧ [6, 7].all (fun n => decide (holdCount ((withPort [⟨1, 0x55, []⟩, ⟨2, 0x55, []⟩] .inService
        (List.replicate n ⟨true, []⟩)).port .p0) = n
      ∧ 2 ≤ ((withPort [⟨1, 0x55, []⟩, ⟨2, 0x55, []⟩] .inService []).port .p0).fifo.length)) = true
    ∧ ((withPort [⟨1, 0x55, []⟩] .inService []).port .p0).fifo.length = 1 ∧ (site.port .p0).fifo = [] := by decide
/-- Heads for each check of R165 in turn: a code of no kind, a body of a wrong length, a role that may not, and two that pass. -/
theorem witness_ArrivingFramesMeetTheFifo_heads :
    (∀ k, kindCode k ≠ (requestOf (requestFrame 7 0x56 [])).kind.toNat)
    ∧ (kindCode .identify = (requestOf (requestFrame 7 0x55 [0])).kind.toNat
      ∧ lengthOk .identify (requestOf (requestFrame 7 0x55 [0])).body = false)
    ∧ (kindCode .setGuard = (requestOf (requestFrame 7 0x4A [9])).kind.toNat
      ∧ lengthOk .setGuard (requestOf (requestFrame 7 0x4A [9])).body = true
      ∧ permits .setGuard ((site.setPort .p0 { upPort with role := .call }).port .p0).role = false
      ∧ permits .setGuard (site.port .p0).role = true ∧ kindOwner .setGuard ≠ .rse)
    ∧ kindCode .readDest = (requestOf (requestFrame 7 0x2C [7, 0, 0])).kind.toNat
      ∧ lengthOk .readDest (requestOf (requestFrame 7 0x2C [7, 0, 0])).body = true ∧ kindOwner .readDest = .rse :=
  ⟨fun k => by cases k <;> decide, by decide, by decide, by decide⟩

theorem witness_SentRepliesLeave :
    ((withPort [] .noHead [⟨true, []⟩]).port .p0).replies = ⟨true, []⟩ :: []
    ∧ ((withPort [⟨1, 0x55, []⟩] .answered [⟨false, []⟩]).port .p0).replies = ⟨false, []⟩ :: []
    ∧ ((withPort [⟨1, 0x55, []⟩] .answered [⟨false, []⟩]).port .p0).fifo = [⟨1, 0x55, []⟩]
    ∧ ((withPort [⟨1, 0x55, []⟩, ⟨2, 0x10, []⟩] .answered [⟨false, []⟩]).port .p0).fifo
      = ⟨1, 0x55, []⟩ :: ⟨2, 0x10, []⟩ :: [] := by decide

/-- P3 waits for the engine, and P0 too when `both`. -/
def waitingSite (both : Bool) : State :=
  (site.setPort .p3 { upPort with fifo := [⟨1, 0x10, [0, 0, 0, 255, 255]⟩], stage := .waiting }).setPort .p0
    (if both then { upPort with fifo := [⟨1, 0x10, [0, 0, 0, 255, 255]⟩], stage := .waiting } else upPort)

theorem witness_EngineGrantsInRotation :
    ((waitingSite false).engineFree = true ∧ portsAfter (waitingSite false).rse.pointer = [.p0, .p1, .p2] ++ .p3 :: []
      ∧ ((waitingSite false).port .p3).stage = .waiting
      ∧ ∀ p' ∈ [PortId.p0, .p1, .p2], ((waitingSite false).port p').stage ≠ .waiting)
    ∧ ((waitingSite true).engineFree = true ∧ portsAfter (waitingSite true).rse.pointer = [] ++ .p0 :: [.p1, .p2, .p3]
      ∧ ((waitingSite true).port .p0).stage = .waiting
      ∧ PortId.p3 ≠ .p0 ∧ ((waitingSite true).port .p3).stage = .waiting)
    ∧ (asked route3).engineFree = false := by decide
theorem witness_EngineGrantsInRotation_idle : ∀ p, (site.port p).stage ≠ .waiting := by
  intro p; cases p <;> decide

/-- The exchange at the end of destination 1's restriction, P0 as given. -/
def ending (q : Port) : State := { site with tmb := ⟨66000, 0, 66, 0⟩ }.setPort .p0 q

theorem witness_NoticesReachTheirPorts :
    ((ending upPort).dest 1).restriction = some ⟨5, 6500, some 6000, 66000⟩ ∧ 66000 ≤ (ending upPort).now
    ∧ ((ending { upPort with link := .down }).port .p0).link = .down
    ∧ ((ending { upPort with role := .off }).port .p0).role = .off
    ∧ ((ending { upPort with mask := 0x3B }).port .p0).mask.getLsbD 2 = false
    ∧ ((ending upPort).port .p0).link = .up ∧ ((ending upPort).port .p0).role ≠ .off
    ∧ ((ending upPort).port .p0).mask.getLsbD 2 = true
    ∧ ((ending { upPort with notices := List.replicate 31 ⟨.groupDrained 0, 0⟩ }).port .p0).notices.length < 32
    ∧ 32 ≤ ((ending { upPort with notices := List.replicate 32 ⟨.groupDrained 0, 0⟩ }).port .p0).notices.length := by decide

theorem witness_NoticeRequestsAct :
    (asked (.takeNotices p0)).inService p0 (.takeNotices p0) = true
    ∧ (asked (.setNoticeMask p0 63)).inService p0 (.setNoticeMask p0 63) = true ∧ (63 : Byte).toNat < 64
    ∧ (asked (.setNoticeMask p0 64)).inService p0 (.setNoticeMask p0 64) = true ∧ 64 ≤ (64 : Byte).toNat
    ∧ (asked (.portStatus p0 4)).inService p0 (.portStatus p0 4) = true ∧ 3 < 4
    ∧ (asked (.portStatus p0 3)).inService p0 (.portStatus p0 3) = true ∧ portNumber .p3 = 3 ∧ PortId.p3 ≠ p0.port
    ∧ (asked (.portStatus p0 0)).inService p0 (.portStatus p0 0) = true ∧ portNumber .p0 = 0 ∧ PortId.p0 = p0.port := by
  decide

theorem witness_ReadsChangeNothing :
    [Instr.readGroupSummary p0 255 0, .readGroupCircuit p0 255 16383 32, .readGroupFreeList p0 0 65535 0,
      .readDestDestination p0 4095, .readDestRouteSet p0 1 511, .readCongestionProfile p0 7, .readCongestionPeriod p0 2,
      .readAgreement p0 63 8, .readTariffClass p0 1 63 3, .readTariffBand p0 1 1, .readBank p0 1 63 8, .readTime p0,
      .queryCall p0 16383 255, .identify p0].all (fun c => (asked c).inService p0 c) = true := by decide

/-- A request for each refusal of a read, at the edge of its range: groups 5 and 254 are UNDEFINED, and group 0 holds circuits 0 to 3. -/
theorem witness_ReadsChangeNothing_refused :
    [Instr.readGroupSummary p0 0 3, .readGroupCircuit p0 254 0 1, .readGroupCircuit p0 0 4 1, .readGroupFreeList p0 5 0 1,
      .readDestDestination p0 4096, .readDestRouteSet p0 1 512, .readDestRouteSet p0 2 0, .readCongestionProfile p0 8,
      .readCongestionPeriod p0 3, .readAgreement p0 0 1, .readAgreement p0 64 1, .readAgreement p0 1 0, .readAgreement p0 1 9,
      .readTariffClass p0 2 1 0, .readTariffClass p0 0 0 0, .readTariffClass p0 0 64 0, .readTariffClass p0 0 1 4,
      .readTariffBand p0 2 0, .readTariffBand p0 1 2, .readBank p0 2 0 1, .readBank p0 0 64 1, .queryCall p0 16384 0,
      .queryCall p0 16383 0, .queryCall p0 3 254].all (fun c => (asked c).inService p0 c) = true
    ∧ site.group 254 = none ∧ site.group 5 = none ∧ site.group 0 = some group0 ∧ group0.first + group0.count ≤ 4
    ∧ site.call 16383 = none ∧ site.gen 3 ≠ 254 := by decide
theorem witness_ReadsReportWhatStands_undefined :
    (asked (.readGroupSummary p0 254 0)).inService p0 (.readGroupSummary p0 254 0) = true ∧ 254 ≤ 255
    ∧ (asked (.readGroupSummary p0 254 0)).group 254 = none := by decide

theorem witness_TimeAndIdentityAreReported :
    (asked (.readTime p0)).inService p0 (.readTime p0) = true
    ∧ (asked (.identify p0)).inService p0 (.identify p0) = true ∧ Role.mgmt ≠ .off := by decide

theorem witness_ReadsReportWhatStands_of_groups_and_calls :
    ((asked (.readGroupSummary p0 255 0)).inService p0 (.readGroupSummary p0 255 0) = true
      ∧ (asked (.readGroupSummary p0 255 0)).group 255 = some group255)
    ∧ ((asked (.readGroupCircuit p0 1 8 33)).inService p0 (.readGroupCircuit p0 1 8 33) = true
      ∧ (asked (.readGroupCircuit p0 1 8 33)).group 1 = some group1 ∧ group1.first ≤ 8 ∧ 8 < group1.first + group1.count)
    ∧ ((asked (.readGroupFreeList p0 255 0 0)).inService p0 (.readGroupFreeList p0 255 0 0) = true
      ∧ (asked (.readGroupFreeList p0 255 0 0)).group 255 = some group255)
    ∧ (asked (.queryCall p0 3 255)).inService p0 (.queryCall p0 3 255) = true
      ∧ (asked (.queryCall p0 3 255)).call 3 = some call3 ∧ (asked (.queryCall p0 3 255)).gen 3 = 255 := by decide
theorem witness_ReadsReportWhatStands_tables : (asked (.readGroupSummary p0 255 0)).TablesInv := asked_tables _
theorem witness_ReadsReportWhatStands_of_tables :
    [Instr.readDestDestination p0 4095, .readDestRouteSet p0 1 511, .readCongestionProfile p0 7, .readCongestionPeriod p0 2,
      .readAgreement p0 63 8, .readAgreement p0 1 1, .readTariffClass p0 0 1 3, .readTariffClass p0 1 63 3,
      .readTariffBand p0 1 0, .readTariffBand p0 1 1, .readBank p0 (bankCode .b) 63 0,
      .readBank p0 (bankCode .a) 0 255].all (fun c => (asked c).inService p0 c) = true := by decide

/-- A group listed in the exchange is one of its six. -/
theorem site_groups (g : Nat) (x : Group) (h : site.group g = some x) :
    (g = 0 ∧ x = group0) ∨ (g = 1 ∧ x = group1) ∨ (g = 2 ∧ x = group2) ∨ (g = 3 ∧ x = group3)
      ∨ (g = 4 ∧ x = group4) ∨ (g = 255 ∧ x = group255) := by
  have hm := mem_of_get _ _ _ h
  simpa [site] using hm

/-- Group 254 is defined over circuits 15359 to 16382. -/
abbrev newGroup : GroupArg := ⟨15359, 1024, 2, 63, 1, 65535, 7, [15359, 16382]⟩

theorem witness_DefineGroupRebuildsTheRange :
    (asked (.defineGroupDefine p0 254 newGroup)).inService p0 (.defineGroupDefine p0 254 newGroup) = true
    ∧ 254 ≤ 255 ∧ 1 ≤ newGroup.count ∧ newGroup.count ≤ 1024 ∧ newGroup.first + newGroup.count ≤ 16384
    ∧ newGroup.carrier ≤ 63 ∧ newGroup.profile ≤ 7 ∧ newGroup.direction = directionCode .bothway
    ∧ newGroup.glare = glareCode .farWins
    ∧ (∀ c ∈ newGroup.maint, newGroup.first ≤ c ∧ c < newGroup.first + newGroup.count)
    ∧ (asked (.defineGroupDefine p0 254 newGroup)).group 254 = none := by decide
theorem witness_DefineGroupRebuildsTheRange_apart :
    (asked (.defineGroupDefine p0 254 newGroup)).TablesInv ∧ (asked (.defineGroupDefine p0 254 newGroup)).PoolInv
    ∧ ∀ g' x c, g' ≠ 254 → (asked (.defineGroupDefine p0 254 newGroup)).group g' = some x → groupHolds c x = true →
      c < newGroup.first ∨ newGroup.first + newGroup.count ≤ c := by
  refine ⟨asked_tables _, asked_pool _, fun g' x c _ hx hc => ?_⟩
  simp only [groupHolds, Bool.and_eq_true, decide_eq_true_eq] at hc
  show c < 15359 ∨ 15359 + 1024 ≤ c
  rcases site_groups g' x hx with ⟨-, rfl⟩ | ⟨-, rfl⟩ | ⟨-, rfl⟩ | ⟨-, rfl⟩ | ⟨-, rfl⟩ | ⟨-, rfl⟩ <;>
    simp only [group0, group1, group2, group3, group4, group255] at hc <;> omega
/-- A BLOCKED group may be defined again, over its own circuit. -/
theorem witness_DefineGroupRebuildsTheRange_again :
    (asked (.defineGroupDefine p0 2 ⟨9, 1, 0, 0, 0, 1, 0, []⟩)).inService p0
      (.defineGroupDefine p0 2 ⟨9, 1, 0, 0, 0, 1, 0, []⟩) = true
    ∧ (asked (.defineGroupDefine p0 2 ⟨9, 1, 0, 0, 0, 1, 0, []⟩)).group 2 = some group2
    ∧ group2.state = .blocked ∧ group2.busy = 0 := by decide

theorem witness_DefineGroupChecksAndRemoves_badValue :
    (asked (.defineGroupDefine p0 5 ⟨20, 1025, 2, 0, 0, 0, 0, []⟩)).inService p0
      (.defineGroupDefine p0 5 ⟨20, 1025, 2, 0, 0, 0, 0, []⟩) = true ∧ ¬ 1025 ≤ 1024 := by decide
theorem witness_DefineGroupChecksAndRemoves_inUse :
    (asked (.defineGroupDefine p0 255 ⟨0, 1, 2, 63, 1, 0, 7, [0]⟩)).inService p0
      (.defineGroupDefine p0 255 ⟨0, 1, 2, 63, 1, 0, 7, [0]⟩) = true
    ∧ ¬ ∀ x, (asked (.defineGroupDefine p0 255 ⟨0, 1, 2, 63, 1, 0, 7, [0]⟩)).group 255 = some x →
      x.state = .blocked ∧ x.busy = 0 :=
  ⟨by decide, fun h => absurd (h group255 rfl) (by decide)⟩
theorem witness_DefineGroupChecksAndRemoves_overlap :
    (asked (.defineGroupDefine p0 2 ⟨9, 2, 0, 0, 0, 0, 0, []⟩)).inService p0
      (.defineGroupDefine p0 2 ⟨9, 2, 0, 0, 0, 0, 0, []⟩) = true
    ∧ (∀ x, (asked (.defineGroupDefine p0 2 ⟨9, 2, 0, 0, 0, 0, 0, []⟩)).group 2 = some x → x.state = .blocked ∧ x.busy = 0)
    ∧ ¬ ∀ g' x c, g' ≠ 2 → (asked (.defineGroupDefine p0 2 ⟨9, 2, 0, 0, 0, 0, 0, []⟩)).group g' = some x →
      groupHolds c x = true → c < 9 ∨ 11 ≤ c :=
  ⟨by decide, fun x h => by cases h; decide, fun h => absurd (h 3 group3 10 (by decide) rfl (by decide)) (by decide)⟩
theorem witness_DefineGroupChecksAndRemoves_remove :
    ((asked (.defineGroupRemove p0 255 2)).inService p0 (.defineGroupRemove p0 255 2) = true)
    ∧ ((asked (.defineGroupRemove p0 2 1)).inService p0 (.defineGroupRemove p0 2 1) = true
      ∧ (asked (.defineGroupRemove p0 2 1)).group 2 = some group2 ∧ group2.state = .blocked ∧ group2.busy = 0)
    ∧ (asked (.defineGroupRemove p0 255 1)).inService p0 (.defineGroupRemove p0 255 1) = true
      ∧ (asked (.defineGroupRemove p0 255 1)).group 255 = some group255 ∧ group255.state ≠ .blocked := by decide

theorem witness_GroupSettingsAreWritten :
    ((asked (.setGroupStateBlock p0 255)).inService p0 (.setGroupStateBlock p0 255) = true
      ∧ (asked (.setGroupStateBlock p0 255)).group 255 = some group255)
    ∧ ((asked (.setGroupStateUnblock p0 255 1)).inService p0 (.setGroupStateUnblock p0 255 1) = true
      ∧ (asked (.setGroupStateUnblock p0 255 1)).group 255 = some group255)
    ∧ ((asked (.setReserve p0 255 2)).inService p0 (.setReserve p0 255 2) = true
      ∧ (asked (.setReserve p0 255 2)).group 255 = some group255)
    ∧ ((asked (.setGroupStateUnblock p0 0 2)).inService p0 (.setGroupStateUnblock p0 0 2) = true ∧ 2 ≠ 1)
    ∧ (asked (.setReserve p0 254 0)).inService p0 (.setReserve p0 254 0) = true
      ∧ (asked (.setReserve p0 254 0)).group 254 = none := by decide

theorem witness_CircuitMaintenanceMovesOneCircuit :
    [(1, 0), (2, 0), (3, 0), (16383, 255)].all (fun e =>
      (asked (.circuitMaintOut p0 e.1)).inService p0 (.circuitMaintOut p0 e.1)
      && (asked (.circuitMaintReturn p0 e.1 1)).inService p0 (.circuitMaintReturn p0 e.1 1)
      && holderListed site e.2 e.1 && decide (e.1 ≤ 16383)) = true
    ∧ (site.circuit 1).state = .idle ∧ (site.circuit 2).held = true ∧ (site.circuit 3).state = .maint
    ∧ [16384, 12].all (fun c => (asked (.circuitMaintOut p0 c)).inService p0 (.circuitMaintOut p0 c)
      && (asked (.circuitMaintReturn p0 c 1)).inService p0 (.circuitMaintReturn p0 c 1)) = true
    ∧ (asked (.circuitMaintReturn p0 0 2)).inService p0 (.circuitMaintReturn p0 0 2) = true := by decide
/-- Circuit 12 is unassigned. -/
theorem witness_CircuitMaintenanceMovesOneCircuit_unassigned :
    (asked (.circuitMaintOut p0 12)).TablesInv ∧ (asked (.circuitMaintOut p0 12)).PoolInv
    ∧ ∀ g x, (asked (.circuitMaintOut p0 12)).group g = some x → groupHolds 12 x = false := by
  refine ⟨asked_tables _, asked_pool _, fun g x hx => ?_⟩
  rcases site_groups g x hx with ⟨-, rfl⟩ | ⟨-, rfl⟩ | ⟨-, rfl⟩ | ⟨-, rfl⟩ | ⟨-, rfl⟩ | ⟨-, rfl⟩ <;> decide

theorem witness_HandlesAreCheckedInOrder :
    [(16384, 0), (16383, 0), (3, 254), (2, 0)].all (fun h =>
      [Instr.confirm p0 h.1 h.2, .answer p0 h.1 h.2, .release p0 h.1 h.2, .reroute p0 h.1 h.2, .queryCall p0 h.1 h.2].all fun c =>
        (asked c).inService p0 c) = true
    ∧ site.call 16383 = none ∧ site.gen 3 ≠ 254 ∧ site.call 2 = some call2 ∧ site.gen 2 = 0 ∧ call2.owner ≠ p0.port := by
  decide

theorem witness_ConfirmSeizesAReservation :
    [(0, 0), (4, 0), (1, 0), (3, 255)].all (fun h => (asked (.confirm p0 h.1 h.2)).inService p0 (.confirm p0 h.1 h.2)
      && decide (site.gen h.1 = h.2)) = true
    ∧ (site.call 0 = some call0 ∧ call0.owner = p0.port ∧ call0.state = .reserved)
    ∧ (site.call 4 = some call4 ∧ call4.owner = p0.port ∧ call4.state = .displaced)
    ∧ (site.call 1 = some call1 ∧ call1.owner = p0.port ∧ call1.state = .seized)
    ∧ site.call 3 = some call3 ∧ call3.owner = p0.port ∧ call3.state = .answered := by decide

theorem witness_AnswerLocksTimeAndBand :
    [(1, 0), (0, 0)].all (fun h => (asked (.answer p0 h.1 h.2)).inService p0 (.answer p0 h.1 h.2)
      && decide (site.gen h.1 = h.2)) = true
    ∧ (site.call 1 = some call1 ∧ call1.owner = p0.port ∧ call1.state = .seized)
    ∧ (site.call 0 = some call0 ∧ call0.owner = p0.port ∧ call0.state ≠ .seized)
    ∧ ([⟨5, 2⟩, ⟨86399, 3⟩].Pairwise fun p q : SwitchPoint => p.second < q.second)
    ∧ (∀ q ∈ [(⟨5, 2⟩ : SwitchPoint), ⟨86399, 3⟩], q.second ≤ 5 → q.second ≤ 5)
    ∧ [(⟨5, 2⟩ : SwitchPoint), ⟨86399, 3⟩].getLast? = some ⟨86399, 3⟩
    ∧ ∀ q ∈ [(⟨5, 2⟩ : SwitchPoint), ⟨86399, 3⟩], 4 < q.second := by decide

/-- Call 3 has a payable leg and no receivable one. -/
theorem witness_ReleaseRatesAndFrees :
    (asked (.release p0 3 255)).inService p0 (.release p0 3 255) = true
    ∧ (asked (.release p0 3 255)).call 3 = some call3 ∧ (asked (.release p0 3 255)).gen 3 = 255
    ∧ call3.owner = p0.port ∧ call3.circuits.Nodup ∧ call3.state = .answered
    ∧ call3.outbound = some ⟨1, 6, 0, true, 2, some 1⟩ ∧ call3.inbound = none
    ∧ (asked (.release p0 3 255)).carrierOf 1 = 1 := by decide
/-- Call 1 has a receivable leg and no payable one. -/
theorem witness_ReleaseRatesAndFrees_receivable :
    (asked (.release p0 1 0)).inService p0 (.release p0 1 0) = true ∧ (asked (.release p0 1 0)).call 1 = some call1
    ∧ (asked (.release p0 1 0)).gen 1 = 0 ∧ call1.owner = p0.port ∧ call1.circuits.Nodup ∧ call1.state = .seized
    ∧ call1.outbound = some ⟨0, 2, 0, true, 0, none⟩ ∧ call1.inbound = some ⟨1, 4, 0, some 0⟩ := by decide
/-- Call 4 is DISPLACED: no leg is rated. -/
theorem witness_ReleaseRatesAndFrees_displaced :
    (asked (.release p0 4 0)).inService p0 (.release p0 4 0) = true ∧ (asked (.release p0 4 0)).call 4 = some call4
    ∧ (asked (.release p0 4 0)).gen 4 = 0 ∧ call4.owner = p0.port ∧ call4.circuits.Nodup
    ∧ call4.state = .displaced ∧ call4.outbound = none
    ∧ call4.drained (asked (.release p0 4 0)) = [.groupDrained 4] := by decide

/-- The exchange at the running time of a guard deadline. -/
def expiring (n : Nat) : State := { site with tmb := ⟨n, 0, 8, 0⟩ }

theorem witness_GuardExpiryFreesTheCall :
    (expiring 8500).call 2 = some call2 ∧ call2.deadline = some 8500 ∧ 8500 ≤ (expiring 8500).tmb.running
    ∧ call2.circuits.Nodup ∧ (expiring 8499).call 2 = some call2 ∧ (expiring 8499).tmb.running < 8500
    ∧ (expiring 8499).call 16383 = none
    ∧ (expiring 9000).call 4 = some call4 ∧ call4.deadline = some 9000 ∧ call4.circuits.Nodup
    ∧ call4.drained (expiring 9000) = [.groupDrained 4] := by decide

theorem witness_GuardTimeAndAdoption :
    [Instr.setGuard p0 0, .setGuard p0 1, .setGuard p0 60, .setGuard p0 61, .adoptPort p0 0 3, .adoptPort p0 3 4,
      .adoptPort p0 4 3, .adoptPort p0 3 3].all (fun c => (asked c).inService p0 c) = true
    ∧ portNumber .p0 = 0 ∧ portNumber .p3 = 3 ∧ PortId.p0 ≠ .p3
    ∧ ((asked (.adoptPort p0 0 3)).port .p3).role = .both ∧ 3 < 4
    ∧ (ask (.adoptPort p0 0 3) (site.setPort .p3 { upPort with role := .mgmt })).inService p0 (.adoptPort p0 0 3) = true
    ∧ ((ask (.adoptPort p0 0 3) (site.setPort .p3 { upPort with role := .mgmt })).port .p3).role = .mgmt := by decide
theorem witness_GuardTimeAndAdoption_tables : (asked (.adoptPort p0 0 3)).TablesInv := asked_tables _

theorem witness_RestartClearsEveryCall :
    (asked (.exchangeRestart p0)).inService p0 (.exchangeRestart p0) = true ∧ (asked (.exchangeRestart p0)).TablesInv :=
  ⟨by decide, asked_tables _⟩

theorem witness_RouteTablesAreWritten :
    [Instr.writeDest p0 4095 255 (List.replicate 8 ⟨1, 511, 7, 1⟩), .writeDest p0 0 0 [⟨0, 255, 0, 0⟩],
      .writeDest p0 0 0 [⟨1, 512, 0, 0⟩], .writeRouteSet p0 511 [⟨0, 255⟩, ⟨0, 0⟩],
      .writeRouteSet p0 0 [⟨0, 1⟩, ⟨0, 1⟩]].all (fun c => (asked c).inService p0 c) = true
    ∧ (4095 ≤ 4095 ∧ (List.replicate 8 (⟨1, 511, 7, 1⟩ : ChoiceArg)).length ≤ 8
      ∧ ∀ a ∈ List.replicate 8 (⟨1, 511, 7, 1⟩ : ChoiceArg), a.rank ≤ 7 ∧ a.mask ≤ 1
        ∧ ((a.kind = 0 ∧ a.target ≤ 255) ∨ (a.kind = 1 ∧ a.target ≤ 511)))
    ∧ (¬ ∀ a ∈ [(⟨1, 512, 0, 0⟩ : ChoiceArg)], (a.kind = 0 ∧ a.target ≤ 255) ∨ (a.kind = 1 ∧ a.target ≤ 511))
    ∧ (511 ≤ 511 ∧ (∀ e ∈ [(⟨0, 255⟩ : SetEntryArg), ⟨0, 0⟩], e.kind = 0 ∧ e.number ≤ 255) ∧ [255, 0].Nodup)
    ∧ ¬ [1, 1].Nodup := by decide

theorem witness_ChoicesAreMaskedAndTurned :
    [Instr.maskChoice p0 0 2 1, .maskChoice p0 0 3 1, .maskChoice p0 4095 0 0, .maskChoice p0 4096 0 0, .setFirst p0 0 1,
      .setFirst p0 0 0, .setFirst p0 0 3, .setFirst p0 4096 0].all (fun c => (asked c).inService p0 c) = true
    ∧ (site.dest 0).routes.length = 3 ∧ (site.dest 4095).routes.length = 1
    ∧ (site.dest 0).routes[1]? = some ⟨.chained 0, 1, false⟩ ∧ rotates (site.dest 0) 1 = true
    ∧ (site.dest 0).routes[0]? = some ⟨.direct 3, 0, false⟩ ∧ rotates (site.dest 0) 0 = false := by decide

/-- What a table reads as, checked over its entries. -/
theorem forall_get {V : Type} [DecidableEq V] (P : Nat → V → Prop) (d : V) (t : Table V) (hd : ∀ k, P k d)
    (ht : ∀ e ∈ t, P e.1 e.2) (k : Nat) : P k (Table.get d t k) := by
  rcases Table.get_mem_or_default d t k with h | h
  · rw [h]; exact hd k
  · exact ht _ h

/-- What a destination reads as, checked over those listed. -/
theorem forall_dest (P : Dest → Prop) (s : State) (hd : P Dest.reset) (hs : ∀ e ∈ s.rse.dests, P e.2) (n : Nat) :
    P (s.dest n) := by
  rcases Table.get_mem_or_default Dest.reset s.rse.dests n with h | h
  · rw [show s.dest n = Dest.reset from h]; exact hd
  · exact hs _ h

/-- A destination with no rotate flag on and no order keeps the rule of orders. -/
theorem still_orders (d : Dest) (hr : d.rotate = 0) (ho : d.orders = []) (k : Nat) :
    if rotates d k = true then (Table.get [] d.orders k).Perm (positionsOfRank d.routes k)
    else Table.get [] d.orders k = [] := by
  simp [rotates, hr, ho]

theorem site_routes : site.RouteInv := by
  refine ⟨forall_dest _ _ ⟨by decide, by simp [Dest.reset], fun k => still_orders _ rfl rfl k⟩ ?_, fun n => ?_⟩
  · intro e he
    simp only [site, List.mem_cons, List.not_mem_nil, or_false] at he
    rcases he with rfl | rfl | rfl | rfl | rfl
    · refine ⟨by decide, by simp [dest0, Choice.inRange, Config.lastGroup, Config.lastSet], fun k => ?_⟩
      by_cases hk : k = 1
      · subst hk; decide
      · have h0 : rotates dest0 k = false := by
          simp only [rotates, dest0]
          by_cases h8 : k < 8
          · interval_cases k <;> first | rfl | omega
          · exact BitVec.getLsbD_of_ge _ _ (by omega)
        rw [if_neg (by simp [h0])]
        exact if_neg (Ne.symm hk)
    · exact ⟨by decide, by simp [dest1, Choice.inRange, Config.lastGroup], fun k => still_orders _ rfl rfl k⟩
    · exact ⟨by decide, by simp [Choice.inRange, Config.lastGroup], fun k => still_orders _ rfl rfl k⟩
    · exact ⟨by decide, by simp [Choice.inRange, Config.lastGroup], fun k => still_orders _ rfl rfl k⟩
    · exact ⟨by decide, by simp [Choice.inRange, Config.lastGroup], fun k => still_orders _ rfl rfl k⟩
  · refine forall_get (fun _ l => l.Nodup ∧ l.length ≤ Config.maxChoices ∧ ∀ g ∈ l, g ≤ Config.lastGroup) [] site.rse.sets (fun _ => by simp) ?_ n
    intro e he
    simp only [site, List.mem_cons, List.not_mem_nil, or_false] at he
    rcases he with rfl | rfl <;> decide

theorem witness_ChoicesAreMaskedAndTurned_routes : (asked (.setFirst p0 0 1)).RouteInv := by
  obtain ⟨q, e⟩ := ask_only_pct (.setFirst p0 0 1) site
  rw [asked, e]
  exact ⟨site_routes.dests, site_routes.sets⟩

theorem witness_WalkTakesTheFirstGroupThatAdmits :
    site.RouteInv
    ∧ (∃ records, walkFrom site .ordinary none (candidates site (site.dest 3)) ⟨[], false⟩ site.cmn.records
      = (.ok ⟨0, 0, 1, 8⟩, records))
    ∧ (∃ s', selectRoute 3 .ordinary none site = (.ok ⟨0, 0, 1, 8⟩, s'))
    ∧ ∃ s', selectRoute 1 .priority none site = (.ok ⟨0, 0, 3, 10⟩, s') :=
  ⟨site_routes, ⟨_, rfl⟩, ⟨_, rfl⟩, ⟨_, rfl⟩⟩
/-- A masked candidate of group 1 does not examine it, group 0 refuses, and group 1 is taken at its second naming: one refusal is counted on group 0. -/
theorem test_masked_candidate_examines_nothing :
    (walkFrom site .ordinary none [⟨0, 0, true, 1⟩, ⟨1, 0, false, 0⟩, ⟨2, 1, false, 1⟩] ⟨[], false⟩
        [(0, ⟨4096, 3, 4, 4, 3⟩)]) = (.ok ⟨2, 1, 1, 8⟩, [(0, ⟨4096, 3, 5, 5, 3⟩), (1, ⟨0, 0, 1, 0, 0⟩)]) := by decide

/-- Destination 2 has no group in service, group 0 is SEVERE with one circuit free, and group 3 may be taken. -/
theorem witness_FailedWalkCountsAndGivesItsReason :
    (∃ records, walkFrom site .ordinary none (candidates site (site.dest 2)) ⟨[], false⟩ site.cmn.records
      = (.error .noEligible, records))
    ∧ (∃ records, walkFrom site .priority none [⟨0, 0, false, 0⟩] ⟨[], false⟩ site.cmn.records = (.error .congested, records))
    ∧ ∃ records, walkFrom (site.setGroup 3 (some { group3 with freeList := [] })) .priority none [⟨0, 0, false, 3⟩]
      ⟨[], false⟩ site.cmn.records = (.error .allBusy, records) := ⟨⟨_, rfl⟩, ⟨_, rfl⟩, ⟨_, rfl⟩⟩

/-- The free records of the exchange: 5 at the head, and every later index. -/
theorem asked_free (c : Instr) : queueList (asked c).crt.queue = 5 :: List.range' 6 16378 := by
  obtain ⟨q, e⟩ := ask_only_pct c site
  have h : (asked c).crt.queue = ⟨5, []⟩ := by rw [asked, e]; rfl
  rw [h]
  show List.range' 5 16379 ++ [] = _
  rw [List.append_nil]
  exact List.range'_succ (s := 5) (n := 16378)

theorem witness_AdmissionTableHolds : 3 ≤ 3 ∧ (CallClass.ordinary = .ordinary ∧ 7 ≠ 0 ∧ 1 ≤ 1) := by decide

/-- An ordinary call to destination 3, originating and from circuit 1 of group 0. -/
theorem witness_AdmittedRouteMakesTheRecord :
    (asked route3).inService p0 route3 = true ∧ 3 ≤ 4095 ∧ classOf 2 = some .ordinary
    ∧ queueList (asked route3).crt.queue = 5 :: List.range' 6 16378
    ∧ ∃ s', selectRoute 3 .ordinary none (asked route3) = (.ok ⟨0, 0, 1, 8⟩, s') :=
  ⟨by decide, by decide, by decide, asked_free _, ⟨_, rfl⟩⟩
theorem witness_AdmittedRouteMakesTheRecord_from_a_circuit :
    (asked (.route p0 3 2 (some 1))).inService p0 (.route p0 3 2 (some 1)) = true ∧ 1 ≤ 16383
    ∧ (asked (.route p0 3 2 (some 1))).group 0 = some group0 ∧ groupHolds 1 group0 = true ∧ group0.state ≠ .blocked
    ∧ group0.direction ≠ .outgoing ∧ ((asked (.route p0 3 2 (some 1))).circuit 1).state = .idle
    ∧ ∃ s', selectRoute 3 .ordinary (some 0) (asked (.route p0 3 2 (some 1))) = (.ok ⟨0, 0, 1, 8⟩, s') :=
  ⟨by decide, by decide, by decide, by decide, by decide, by decide, by decide, ⟨_, rfl⟩⟩
theorem witness_AdmittedRouteMakesTheRecord_invariants (c : Instr) : (asked c).TablesInv ∧ (asked c).PoolInv :=
  ⟨asked_tables c, asked_pool c⟩

/-- The exchange with every record taken. -/
def fullTable : State := { site with crt := { site.crt with queue := ⟨16384, []⟩ } }

theorem witness_RefusedRouteChangesNothing :
    [Instr.route p0 4096 0 none, .route p0 0 4 none, .route p0 4094 3 none, .route p0 1 2 none, .route p0 1 0 none,
      .route p0 2 2 none].all (fun c => (asked c).inService p0 c) = true
    ∧ (ask (.route p0 4095 3 none) fullTable).inService p0 (.route p0 4095 3 none) = true
    ∧ queueList (ask (.route p0 4095 3 none) fullTable).crt.queue = []
    ∧ (site.dest 4094).routes = []
    ∧ ((site.dest 1).routes ≠ [] ∧ (site.dest 1).restriction = some ⟨5, 6500, some 6000, 66000⟩
      ∧ site.tmb.running < 6500 ∧ classCode .ordinary = 2)
    ∧ (site.dest 2).routes ≠ [] ∧ (site.dest 2).restriction = none := by decide
/-- The same with the IDLE circuit 1 of group 0 named: a range fault, an empty queue, UNROUTABLE, a gapped call, and a walk that fails. -/
theorem witness_RefusedRouteChangesNothing_from_a_circuit :
    [Instr.route p0 4096 0 (some 1), .route p0 4094 3 (some 1), .route p0 1 2 (some 1), .route p0 2 2 (some 1)].all
      (fun c => (asked c).inService p0 c) = true
    ∧ (ask (.route p0 4095 3 (some 16384)) fullTable).inService p0 (.route p0 4095 3 (some 16384)) = true
    ∧ queueList (ask (.route p0 4095 3 (some 16384)) fullTable).crt.queue = []
    ∧ site.group 0 = some group0 ∧ groupHolds 1 group0 = true ∧ group0.state ≠ .blocked ∧ group0.direction ≠ .outgoing
    ∧ (site.circuit 1).state = .idle
    ∧ ∃ records, walkFrom (asked (.route p0 2 2 (some 1))) .ordinary (some 0)
      (candidates (asked (.route p0 2 2 (some 1))) ((asked (.route p0 2 2 (some 1))).dest 2)) ⟨[], false⟩
      (asked (.route p0 2 2 (some 1))).cmn.records = (.error .noEligible, records) :=
  ⟨by decide, by decide, by decide, by decide, by decide, by decide, by decide, by decide, ⟨_, rfl⟩⟩
theorem witness_RefusedRouteChangesNothing_invariants (c : Instr) :
    (asked c).TablesInv ∧ (asked c).PoolInv ∧ queueList (asked c).crt.queue ≠ [] :=
  ⟨asked_tables c, asked_pool c, by rw [asked_free]; exact List.cons_ne_nil _ _⟩
theorem witness_RefusedRouteChangesNothing_walk :
    queueList (asked (.route p0 2 2 none)).crt.queue ≠ []
    ∧ ∃ records, walkFrom (asked (.route p0 2 2 none)) .ordinary none
      (candidates (asked (.route p0 2 2 none)) ((asked (.route p0 2 2 none)).dest 2)) ⟨[], false⟩
      (asked (.route p0 2 2 none)).cmn.records = (.error .noEligible, records) :=
  ⟨by rw [asked_free]; exact List.cons_ne_nil _ _, ⟨_, rfl⟩⟩

/-- One circuit for each check of R29, and circuit 5 for the glare of a LOCAL_WINS group. -/
theorem witness_InboundCircuitsAreChecked :
    [16384, 12, 9, 10, 3, 4, 5].all (fun c => (asked (.route p0 4095 3 (some c))).inService p0
      (.route p0 4095 3 (some c))) = true
    ∧ (groupHolds 9 group2 = true ∧ group2.state = .blocked)
    ∧ (groupHolds 10 group3 = true ∧ group3.state ≠ .blocked ∧ group3.direction = .outgoing)
    ∧ (groupHolds 3 group0 = true ∧ group0.state ≠ .blocked ∧ group0.direction ≠ .outgoing
      ∧ (site.circuit 3).state = .maint)
    ∧ (groupHolds 4 group1 = true ∧ group1.state ≠ .blocked ∧ group1.direction ≠ .outgoing
      ∧ (site.circuit 4).state = .busy)
    ∧ (groupHolds 5 group1 = true ∧ (site.circuit 5).state = .reserved ∧ group1.glare = .localWins)
    ∧ site.group 0 = some group0 ∧ site.group 1 = some group1 ∧ site.group 2 = some group2 ∧ site.group 3 = some group3
    ∧ classOf 3 = some .low := by decide
theorem witness_InboundCircuitsAreChecked_invariants (c : Instr) :
    (asked c).TablesInv ∧ (asked c).PoolInv ∧ queueList (asked c).crt.queue ≠ [] := by
  refine ⟨asked_tables c, asked_pool c, ?_⟩
  rw [asked_free]
  exact List.cons_ne_nil _ _

/-- Circuit 0 is RESERVED by call 0; destination 3 admits the new call, and destination 2 does not. -/
theorem witness_FarWinsGlareDisplaces :
    (asked (.route p0 3 2 (some 0))).inService p0 (.route p0 3 2 (some 0)) = true ∧ classOf 2 = some .ordinary
    ∧ (asked (.route p0 3 2 (some 0))).group 0 = some group0 ∧ groupHolds 0 group0 = true ∧ group0.state ≠ .blocked
    ∧ group0.direction ≠ .outgoing ∧ ((asked (.route p0 3 2 (some 0))).circuit 0).state = .reserved
    ∧ group0.glare = .farWins ∧ (asked (.route p0 3 2 (some 0))).call 0 = some call0 ∧ 0 ∈ call0.circuits
    ∧ (asked (.route p0 2 2 (some 0))).inService p0 (.route p0 2 2 (some 0)) = true := by decide
theorem witness_FarWinsGlareDisplaces_walks :
    queueList (asked (.route p0 3 2 (some 0))).crt.queue = 5 :: List.range' 6 16378
    ∧ (∃ s', selectRoute 3 .ordinary (some 0) (asked (.route p0 3 2 (some 0))) = (.ok ⟨0, 0, 1, 8⟩, s'))
    ∧ ∃ s', selectRoute 2 .ordinary (some 0) (asked (.route p0 2 2 (some 0))) = (.error .noEligible, s') :=
  ⟨asked_free _, ⟨_, rfl⟩, ⟨_, rfl⟩⟩
theorem witness_FarWinsGlareDisplaces_invariants (c : Instr) :
    (asked c).TablesInv ∧ (asked c).PoolInv ∧ (asked c).QueueInv := ⟨asked_tables c, asked_pool c, asked_queue c⟩

/-- Destination 0 leads to group 3, and in `lost` to the BLOCKED group 2. -/
theorem witness_ReroutePlacesADisplacedCall :
    (asked (.reroute p0 4 0)).inService p0 (.reroute p0 4 0) = true ∧ (asked (.reroute p0 4 0)).call 4 = some call4
    ∧ (asked (.reroute p0 4 0)).gen 4 = 0 ∧ call4.owner = p0.port ∧ call4.state = .displaced
    ∧ (asked (.reroute p0 1 0)).inService p0 (.reroute p0 1 0) = true ∧ (asked (.reroute p0 1 0)).call 1 = some call1
    ∧ call1.state ≠ .displaced := by decide
/-- The exchange with only a BLOCKED group behind destination 0. -/
def lost : State := ask (.reroute p0 4 0) (site.setDest 0 ⟨[⟨.direct 2, 0, false⟩], 0, [], none⟩)
theorem witness_ReroutePlacesADisplacedCall_walks :
    (asked (.reroute p0 4 0)).PoolInv ∧ lost.PoolInv ∧ lost.inService p0 (.reroute p0 4 0) = true
    ∧ (∃ s', selectRoute 0 .ordinary (some 4) (asked (.reroute p0 4 0)) = (.ok ⟨0, 0, 3, 10⟩, s'))
    ∧ ∃ s', selectRoute 0 .ordinary (some 4) lost = (.error .noEligible, s') :=
  ⟨asked_pool _, poolInv_of_check _ (by decide), by decide, ⟨_, rfl⟩, ⟨_, rfl⟩⟩

/-- An ordinary call to destination 1 at its next-admit time. -/
def atNextAdmit : State := ask (.route p0 1 2 none) { site with tmb := ⟨6500, 0, 6, 500⟩ }
theorem witness_AdmissionsAreSpacedByTheGap :
    classOf 2 = some .ordinary ∧ (∃ t, exec (.route p0 1 2 none) atNextAdmit = .next t)
    ∧ (atNextAdmit.dest 1).restriction = some ⟨5, 6500, some 6000, 66000⟩ ∧ 6500 ≤ atNextAdmit.tmb.running
    ∧ (after (.route p0 1 2 none) atNextAdmit).call 5 ≠ none
    ∧ (∃ t, exec (.reroute p0 4 0) (asked (.reroute p0 4 0)) = .next t)
    ∧ (asked (.reroute p0 4 0)).call 4 = some call4 ∧ call4.dest = 0 ∧ call4.cls = .ordinary :=
  ⟨by decide, ⟨_, rfl⟩, by decide, by decide, by decide, ⟨_, rfl⟩, by decide, by decide, by decide⟩
/-- An ordinary and a priority call to destination 1, one to the rotating rank of destination 0, and a REROUTE. -/
theorem witness_AdmissionsAreSpacedByTheGap_placed :
    (∃ s', selectRoute 1 .ordinary none atNextAdmit = (.ok ⟨0, 0, 3, 10⟩, s'))
    ∧ atNextAdmit.inService p0 (.route p0 1 2 none) = true
    ∧ (asked (.route p0 1 1 none)).inService p0 (.route p0 1 1 none) = true ∧ classOf 1 = some .priority
    ∧ (∃ s', selectRoute 1 .priority none (asked (.route p0 1 1 none)) = (.ok ⟨0, 0, 3, 10⟩, s'))
    ∧ checkInbound (asked (.route p0 3 2 (some 1))) 1 = .ok (0, false)
    ∧ (∃ s', selectRoute 3 .ordinary (some 0) (asked (.route p0 3 2 (some 1))) = (.ok ⟨0, 0, 1, 8⟩, s'))
    ∧ (asked (.reroute p0 4 0)).inService p0 (.reroute p0 4 0) = true ∧ (asked (.reroute p0 4 0)).gen 4 = 0
    ∧ call4.owner = p0.port ∧ call4.state = .displaced
    ∧ (∃ s', selectRoute 0 .ordinary (some 4) (asked (.reroute p0 4 0)) = (.ok ⟨0, 0, 3, 10⟩, s')) :=
  ⟨⟨_, rfl⟩, by decide, by decide, by decide, ⟨_, rfl⟩, by decide, ⟨_, rfl⟩, by decide, by decide, by decide, by decide,
    ⟨_, rfl⟩⟩
theorem witness_AdmissionsAreSpacedByTheGap_queue (c : Instr) : queueList (asked c).crt.queue ≠ [] := by
  rw [asked_free]; exact List.cons_ne_nil _ _
theorem witness_AdmissionsAreSpacedByTheGap_invariant : (⟨5, 6500, some 6000, 66000⟩ : Restriction).Inv 6500 :=
  ⟨by decide, by decide, by decide⟩

theorem witness_FarCongestionOnlyTightens :
    [Instr.farCongestion p0 4096 1 1, .farCongestion p0 4095 0 0, .farCongestion p0 1 600 3600,
      .farCongestion p0 1 601 3601].all (fun c => (asked c).inService p0 c) = true
    ∧ (site.dest 4095).restriction = none ∧ (site.dest 1).restriction = some ⟨5, 6500, some 6000, 66000⟩ := by decide

theorem witness_RestrictionsEnd :
    (asked (.farClear p0 1)).inService p0 (.farClear p0 1) = true
    ∧ ((asked (.farClear p0 1)).dest 1).restriction = some ⟨5, 6500, some 6000, 66000⟩
    ∧ ((ending upPort).dest 1).restriction = some ⟨5, 6500, some 6000, 66000⟩ ∧ 66000 ≤ (ending upPort).tmb.running
    ∧ (asked (.farClear p0 4096)).inService p0 (.farClear p0 4096) = true
    ∧ (asked (.farClear p0 4095)).inService p0 (.farClear p0 4095) = true
    ∧ ((asked (.farClear p0 4095)).dest 4095).restriction = none ∧ site.tmb.running < 66000 := by decide
theorem witness_RestrictionsEnd_notDue :
    ∀ x, (site.dest 1).restriction = some x → site.tmb.running < x.endTime :=
  fun x h => by cases h; decide

theorem witness_PeriodEndMeasuresEveryGroup :
    (expiring 10000).cmn.nextPeriodEnd ≤ (expiring 10000).tmb.running ∧ (expiring 9999).tmb.running < (expiring 9999).cmn.nextPeriodEnd
    ∧ (expiring 10000).group 0 = some group0 ∧ (expiring 10000).group 5 = none ∧ (site.cmn.stagedPeriod, 20000) = (3, 20000) := by
  decide
theorem witness_PeriodEndMeasuresEveryGroup_tables : (expiring 10000).TablesInv := tablesInv_of_check _ (by decide)

theorem witness_IndexMovesTowardsTheSample : 0 ≤ 4096 ∧ 4096 ≤ 4096 ∧ 4 ≤ 4 := by decide
theorem witness_LevelFollowsTheThresholds :
    3 ≤ 3 ∧ 0 < 4294967295 ∧ thresholdsValid ⟨4094, 4095, 4096, 1023, 4⟩ = true
    ∧ (⟨4096, 3, 4294967295, 4294967295, 3⟩ : CongestionRecord).attempts = 4294967295 := by decide

theorem witness_StagedCopiesAndLatches :
    [Instr.writeProfile p0 7 ⟨4094, 4095, 4096, 1024, 5⟩, .writeProfile p0 0 ⟨1, 2, 2, 0, 0⟩, .writeProfile p0 8 ⟨1, 2, 3, 0, 0⟩,
      .setPeriod p0 3, .setPeriod p0 4, .readCongestionGroup p0 255 0, .readCongestionGroup p0 0 17].all
      (fun c => (asked c).inService p0 c) = true := by decide

theorem witness_OffersAreResolved :
    [Instr.writeLocalOffer p0 63 [3, 2, 1], .writeLocalOffer p0 1 [], .writeLocalOffer p0 2 [3], .writeCarrierOffer p0 63 [3],
      .writeCarrierOffer p0 1 [], .withdrawAgreement p0 1].all (fun c => (asked c).inService p0 c) = true
    ∧ [3, 2, 1].length ≤ 3 ∧ (∀ n ∈ [3, 2, 1], 1 ≤ n ∧ n ≤ 3) ∧ [3, 2, 1].Nodup
    ∧ (site.agreement 63).carrierOffer = none ∧ (site.agreement 2).carrierOffer = some [1, 2]
    ∧ (site.agreement 63).localOffer = [] ++ 3 :: [] := by decide

theorem witness_ReportsConfirmOrMismatch :
    [Instr.confirmAgreement p0 2 2, .confirmAgreement p0 2 3, .confirmAgreement p0 63 1, .writeLocalOffer p0 64 [],
      .writeLocalOffer p0 1 [1, 1], .writeCarrierOffer p0 1 [4], .confirmAgreement p0 1 4, .confirmAgreement p0 0 1,
      .withdrawAgreement p0 64, .readAgreement p0 1 9, .readAgreement p0 0 1].all (fun c => (asked c).inService p0 c) = true
    ∧ (site.agreement 2).state = .matched 2 ∧ (site.agreement 63).state = .offerHeld := by decide

theorem witness_PendingTariffsAreWritten :
    [Instr.writeTariff p0 63 3 ⟨65535, 3601, 256, 65535, 65535, 65535, 65535, 255, 255, 255⟩,
      .writeTariff p0 1 0 ⟨0, 0, 255, 0, 0, 0, 0, 0, 0, 0⟩, .writeTariff p0 0 0 resetTariff, .writeTariff p0 64 0 resetTariff,
      .writeTariff p0 1 4 resetTariff, .writeBands p0 [], .writeBands p0 [⟨0, 0⟩, ⟨86399, 3⟩],
      .writeBands p0 [⟨5, 0⟩, ⟨5, 1⟩], .writeBands p0 [⟨86400, 0⟩]].all (fun c => (asked c).inService p0 c) = true
    ∧ ([(⟨0, 0⟩ : SwitchPoint), ⟨86399, 3⟩].Pairwise fun p q => p.second < q.second)
    ∧ ¬ [(⟨5, 0⟩ : SwitchPoint), ⟨5, 1⟩].Pairwise fun p q => p.second < q.second := by decide

theorem witness_ChargesLieBetweenBaseAndTwiceBase :
    let v : TariffClass := ⟨65535, 1, 255, 65535, 65535, 65535, 65535, 255, 255, 255⟩
    1 ≤ v.step ∧ v.minSteps ≤ 255 ∧ v.setup ≤ 65535 ∧ v.rate0 ≤ 65535 ∧ v.rate1 ≤ 65535 ∧ v.rate2 ≤ 65535
    ∧ v.rate3 ≤ 65535 ∧ v.surcharge1 ≤ 255 ∧ v.surcharge2 ≤ 255 ∧ v.surcharge3 ≤ 255
    ∧ min (6000 - 6000) 86400000 = 0 ∧ 0 < min (86406001 - 6000) 86400000 ∧ CallClass.low ≠ .emergency
    ∧ (3, v.surcharge3) ∈ [(1, v.surcharge1), (2, v.surcharge2), (3, v.surcharge3)] := by decide

theorem witness_LegsAccumulateAndSaturate :
    (⟨.payable, 63, 3, true, 17179869183, 86400, true⟩ : RatedLeg).answered = true
    ∧ (⟨.receivable, 1, 0, true, 0, 0, false⟩ : RatedLeg).kind = .receivable
    ∧ (⟨.payable, 1, 1, false, 0, 0, false⟩ : RatedLeg).answered = false ∧ 2 ≠ 1 := by decide

/-- Bank A is ACTIVE with period 65535; bank B is COLLECTABLE, and AVAILABLE in `collected`. -/
def collected : State := { site with sts := { site.sts with bankB := ⟨.available, []⟩, closeDue := true } }
theorem witness_ClosesSwapOrDefer :
    BankId.a = site.sts.activeBank ∧ (site.bank .a).state = .active 65535 ⟨0, 0⟩
    ∧ (asked (.closePeriod p0)).inService p0 (.closePeriod p0) = true
    ∧ (site.bank (otherBank .a)).state = .collectable 65534 ⟨0, 0⟩ ⟨0, 0⟩
    ∧ (ask (.closePeriod p0) collected).inService p0 (.closePeriod p0) = true
    ∧ (collected.bank (otherBank .a)).state = .available ∧ collected.sts.closeDue = true
    ∧ site.sts.closeDue = false := by decide

theorem witness_BanksAreReleased :
    [Instr.setAutoCloseOff p0, .setAutoCloseSecond p0 1 86399, .setAutoCloseSecond p0 1 86400, .setAutoCloseSecond p0 2 0,
      .releaseBank p0 2, .releaseBank p0 0, .releaseBank p0 1].all (fun c => (asked c).inService p0 c) = true
    ∧ bankCode .b = 1 ∧ (site.bank .b).state = .collectable 65534 ⟨0, 0⟩ ⟨0, 0⟩ ∧ site.sts.closeDeferred = false
    ∧ { site.sts with closeDeferred := true }.closeDeferred = true
    ∧ (site.bank (otherBank .b)).state = .active 65535 ⟨0, 0⟩ ∧ bankCode .a = 0 := by decide

/-- What a settlement record reads as, checked over those listed. -/
theorem forall_record (b : Bank) (h : ∀ e ∈ b.records, e.2.Inv) (c : Nat) : (b.record c).Inv := by
  rcases Table.get_mem_or_default SettlementRecord.zero b.records c with hd | hm
  · rw [show b.record c = SettlementRecord.zero from hd]
    exact ⟨by decide, by decide, by decide, by decide, by decide, by decide⟩
  · exact h _ hm

theorem bank_invariant (s : State) (ha : s.sts.bankA = site.sts.bankA) (hb : s.sts.bankB = site.sts.bankB)
    (hi : s.sts.activeBank = .a) : s.BankInv := by
  refine ⟨⟨65535, ⟨0, 0⟩, ?_, by decide, ?_⟩, fun k c => forall_record _ ?_ c⟩
  · rw [hi]; exact congrArg Bank.state ha
  · rw [hi]
    show idleBankOk 65535 s.sts.closeDeferred s.sts.bankB
    rw [hb]
    exact ⟨by decide, by decide⟩
  · cases k
    · simp only [State.bank, ha]
      intro e he
      simp only [site, List.mem_singleton] at he
      subst he
      exact ⟨by decide, by decide, by decide, by decide, by decide, by decide⟩
    · simp only [State.bank, hb]
      intro e he
      simp [site] at he

theorem witness_BanksAreReleased_invariant :
    (asked (.releaseBank p0 1)).BankInv
    ∧ (ask (.releaseBank p0 1) { site with sts := { site.sts with closeDeferred := true } }).BankInv :=
  ⟨bank_invariant _ rfl rfl rfl, bank_invariant _ rfl rfl rfl⟩

theorem witness_ClocksAdvanceAndAreSet :
    [(999, 86399, 65535), (999, 86398, 0), (998, 86399, 65535)].all (fun e =>
      decide (e.1 ≤ 999 ∧ e.2.1 ≤ 86399 ∧ e.2.2 ≤ 65535)) = true
    ∧ site.tmb.running < site.cmn.nextPeriodEnd ∧ site.sts.closeDue = false ∧ collected.sts.closeDue = true
    ∧ [Instr.setTime p0 65535 86399 999, .setTime p0 0 86400 0, .setTime p0 0 0 1000].all
      (fun c => (asked c).inService p0 c) = true := by decide
theorem witness_ClocksAdvanceAndAreSet_quiet :
    site.TablesInv ∧ (∀ i x d, site.call i = some x → x.deadline = some d → site.tmb.running < d)
    ∧ (∀ n x, (site.dest n).restriction = some x → site.tmb.running < x.endTime)
    ∧ (∀ p, (site.port p).role ≠ .off → (site.port p).link = .down → (site.port p).line = .good →
      site.now < (site.port p).goodSince + 100)
    ∧ ∀ p, (site.port p).engineLoad = 0 := by
  refine ⟨site_tables, fun i x d hi hd => ?_, fun n => ?_, fun p _ h => ?_, fun p => by cases p <;> decide⟩
  · have hm := mem_of_get _ _ _ hi
    simp only [site, List.mem_cons, Prod.mk.injEq, Option.some.injEq, List.not_mem_nil, or_false] at hm
    rcases hm with ⟨-, rfl⟩ | ⟨-, rfl⟩ | ⟨-, rfl⟩ | ⟨-, rfl⟩ | ⟨-, rfl⟩ <;>
      simp [call0, call1, call2, call3, call4] at hd <;> subst hd <;> decide
  · refine forall_dest (fun d => ∀ x, d.restriction = some x → site.tmb.running < x.endTime) _ (fun x h => by cases h) ?_ n
    intro e he x hx
    simp only [site, List.mem_cons, List.not_mem_nil, or_false] at he
    rcases he with rfl | rfl | rfl | rfl | rfl <;> simp [dest0, dest1] at hx
    subst hx; decide
  · cases p <;> cases h

/-! ### The invariants hold of the exchange, and a step is taken from it -/

/-- The exchange with a command waiting. -/
def busySite (c : Instr) : State := { asked c with pending := [c] }

theorem witness_StepsKeepPortsAndEngine :
    (busySite (.setGuard p0 5)).PortsInv ∧ (busySite (.setGuard p0 5)).EngineInv
    ∧ ∃ t, step (busySite (.setGuard p0 5)) = .next t := by
  refine ⟨fun p => ?_, show _ ≤ 1 by decide, ⟨_, rfl⟩⟩
  cases p <;> exact ⟨by decide, by decide, by decide, by decide, by decide, by decide, by decide, by decide,
    by decide, by decide, by decide, by decide, by decide⟩

theorem witness_NoDeadlineIsPassedOver :
    { site with pending := [.millisecondTick] }.ClockInv ∧ { site with pending := [.millisecondTick] }.DeadlineInv
    ∧ ∃ t, step { site with pending := [.millisecondTick] } = .next t := by
  refine ⟨⟨by decide, by decide, by decide, by decide, by decide, fun p => by cases p <;> decide,
      fun p => by cases p <;> decide⟩,
    ⟨fun i r d hi hd => le_of_lt (witness_ClocksAdvanceAndAreSet_quiet.2.1 i r d hi hd),
      fun n x hx => le_of_lt (witness_ClocksAdvanceAndAreSet_quiet.2.2.1 n x hx), by decide,
      fun p hr hl hg => le_of_lt (witness_ClocksAdvanceAndAreSet_quiet.2.2.2.1 p hr hl hg)⟩, ⟨_, rfl⟩⟩

theorem witness_StepsKeepOneBankActive :
    (busySite (.closePeriod p0)).BankInv ∧ ∃ t, step (busySite (.closePeriod p0)) = .next t :=
  ⟨bank_invariant _ rfl rfl rfl, ⟨_, rfl⟩⟩

theorem witness_StepsKeepAgreementsAndRoutes :
    { site with pending := [.gapExpiry 1] }.AgreementInv ∧ { site with pending := [.gapExpiry 1] }.RouteInv
    ∧ { site with pending := [.gapExpiry 1] }.RestrictionInv
    ∧ ∃ t, step { site with pending := [.gapExpiry 1] } = .next t := by
  refine ⟨fun c => ?_, ⟨site_routes.dests, site_routes.sets⟩, fun n => ?_, ⟨_, rfl⟩⟩
  · refine forall_get (fun _ a => a.Inv) Agreement.reset site.cau.records (fun _ => ⟨by decide, by decide, .inl (by decide)⟩) ?_ c
    intro e he
    simp only [site, List.mem_cons, List.not_mem_nil, or_false] at he
    rcases he with rfl | rfl | rfl
    · exact ⟨by decide, by decide, .inr ⟨1, by decide, .inl rfl⟩⟩
    · exact ⟨by decide, by decide, .inl (by decide)⟩
    · exact ⟨by decide, by decide, .inl (by decide)⟩
  · refine forall_dest (fun d => ∀ x, d.restriction = some x → x.Inv 6000) site (fun x h => by cases h) ?_ n
    intro e he x hx
    simp only [site, List.mem_cons, List.not_mem_nil, or_false] at he
    rcases he with rfl | rfl | rfl | rfl | rfl <;> simp [dest0, dest1] at hx
    subst hx
    exact ⟨by decide, by decide, by decide⟩

theorem witness_StepsKeepTablesAndQueue :
    (busySite (.release p0 3 255)).TablesInv ∧ (busySite (.release p0 3 255)).QueueInv
    ∧ (busySite (.release p0 3 255)).PoolInv ∧ ∃ t, step (busySite (.release p0 3 255)) = .next t :=
  ⟨tablesInv_of_check _ (by decide), queueInv_of_check _ (by decide) (tablesInv_of_check _ (by decide)),
    poolInv_of_check _ (by decide), ⟨_, rfl⟩⟩

theorem witness_StepsKeepPoolAndCallsInAgreement :
    (busySite (.confirm p0 0 0)).TablesInv ∧ (busySite (.confirm p0 0 0)).QueueInv
    ∧ (busySite (.confirm p0 0 0)).PoolInv ∧ ∃ t, step (busySite (.confirm p0 0 0)) = .next t :=
  ⟨tablesInv_of_check _ (by decide), queueInv_of_check _ (by decide) (tablesInv_of_check _ (by decide)),
    poolInv_of_check _ (by decide), ⟨_, rfl⟩⟩

/-- What a profile reads as, checked over those listed. -/
theorem forall_profile (t : Table Profile) (h : ∀ e ∈ t, profileOk e.2) (n : Nat) :
    profileOk (Table.get resetProfile t n) := by
  rcases Table.get_mem_or_default resetProfile t n with hd | hm
  · rw [hd]; exact ⟨by decide, by decide, by decide⟩
  · exact h _ hm

theorem witness_StepsKeepCongestionInRange :
    (busySite (.readCongestionGroup p0 0 16)).TablesInv ∧ (busySite (.readCongestionGroup p0 0 16)).PoolInv
    ∧ (busySite (.readCongestionGroup p0 0 16)).CongestionInv
    ∧ ∃ t, step (busySite (.readCongestionGroup p0 0 16)) = .next t := by
  refine ⟨tablesInv_of_check _ (by decide), poolInv_of_check _ (by decide),
    ⟨fun g => ?_, fun g hg => ?_, fun n => ⟨forall_profile [] (by simp) n, forall_profile _ ?_ n⟩, by decide⟩, ⟨_, rfl⟩⟩
  · refine forall_get (fun _ r => r.Inv) CongestionRecord.zero site.cmn.records (fun _ => ⟨by decide, by decide, by decide, by decide, by decide⟩) ?_ g
    intro e he
    simp only [site, List.mem_cons, List.not_mem_nil, or_false] at he
    rcases he with rfl | rfl <;> exact ⟨by decide, by decide, by decide, by decide, by decide⟩
  · refine forall_get (fun g r => site.group g = none → r = CongestionRecord.zero) CongestionRecord.zero
      site.cmn.records (fun _ _ => rfl) ?_ g hg
    intro e he hn
    simp only [site, List.mem_cons, List.not_mem_nil, or_false] at he
    rcases he with rfl | rfl <;> exact absurd hn (by decide)
  · intro e he
    have he' : e ∈ site.cmn.staged := he
    simp only [site, List.mem_singleton] at he'
    subst he'
    exact ⟨by decide, by decide, by decide⟩

end Sys2Proof.Machine.Slice0
end

section
/-! SUPPORT. Serving and events as proofs about commands use them, and the blocks that each command may touch. -/

namespace Sys2Proof.Machine

/-! ### Serving -/

/-- A request in service is served whole, and its reply delivered. -/
theorem serve_of_inService {r : Requester} {c : Instr} {s : State} (h : s.inService r c = true)
    (f : State → Reply × State) : serve r c f s = .next ((f s).2.deliver r c (f s).1) :=
  if_pos h

/-- A request in service for which the block answers `a` and leaves `u`. -/
theorem serve_eq {r : Requester} {c : Instr} {s u : State} {a : Reply} (h : s.inService r c = true)
    (f : State → Reply × State) (hf : f s = (a, u)) : serve r c f s = .next (u.deliver r c a) := by
  rw [serve_of_inService h, hf]

/-- What a delivery makes of the ports depends on the ports alone. -/
theorem deliver_pct_congr {s u : State} (h : u.pct = s.pct) (r : Requester) (c : Instr) (a : Reply) :
    (u.deliver r c a).pct = (s.deliver r c a).pct := by
  have hp : ∀ p, u.port p = s.port p := fun p => by cases p <;> simp only [State.port, h]
  refine State.pct_ext _ _ fun p => ?_
  rw [deliver_port, deliver_port, hp]

/-- What holds of the state that the block leaves, and no delivery disturbs, holds after the command. -/
theorem serve_keeps {P : State → Prop} {r : Requester} {c : Instr} {f : State → Reply × State} {s t : State}
    (hd : ∀ u a, P u → P (u.deliver r c a)) (hs : P s) (hf : P (f s).2) (h : serve r c f s = .next t) : P t := by
  rcases (serve_next r c f s t).1 h with ⟨-, rfl⟩ | ⟨-, rfl⟩
  · exact hd _ _ hf
  · exact hs

/-- What an event that is due brings about, and what already held, holds after the event. -/
theorem eventWhen_keeps {P : State → Prop} {due : Bool} {f : State → State} {s t : State}
    (hs : P s) (hf : due = true → P (f s)) (h : eventWhen due f s = .next t) : P t := by
  rcases (eventWhen_next due f s t).1 h with ⟨hd, rfl⟩ | ⟨-, rfl⟩
  · exact hf hd
  · exact hs

/-! ### Blocks that an operation touches -/

section SameBut

variable {bs bs' : List Block} {s t u : State}

theorem State.SameBut.refl (bs : List Block) (s : State) : s.SameBut bs s :=
  ⟨.inr rfl, .inr rfl, .inr rfl, .inr rfl, .inr rfl, .inr rfl, .inr rfl, .inr rfl, .inr rfl, rfl⟩

theorem State.SameBut.mono (h : s.SameBut bs t) (hb : bs ⊆ bs') : s.SameBut bs' t :=
  ⟨h.pct.imp (@hb _) id, h.cpl.imp (@hb _) id, h.crt.imp (@hb _) id, h.rse.imp (@hb _) id, h.cmn.imp (@hb _) id,
    h.cau.imp (@hb _) id, h.hru.imp (@hb _) id, h.sts.imp (@hb _) id, h.tmb.imp (@hb _) id, h.pending⟩

/-- A block that neither of two steps touches is the same after both. -/
theorem sameBlock_trans {α : Type} {P : Prop} {x y z : α} (h1 : P ∨ y = x) (h2 : P ∨ z = y) : P ∨ z = x :=
  h1.elim .inl fun e1 => h2.imp id fun e2 => e2.trans e1

theorem State.SameBut.trans (h : s.SameBut bs t) (h' : t.SameBut bs u) : s.SameBut bs u :=
  ⟨sameBlock_trans h.pct h'.pct, sameBlock_trans h.cpl h'.cpl, sameBlock_trans h.crt h'.crt,
    sameBlock_trans h.rse h'.rse, sameBlock_trans h.cmn h'.cmn, sameBlock_trans h.cau h'.cau,
    sameBlock_trans h.hru h'.hru, sameBlock_trans h.sts h'.sts, sameBlock_trans h.tmb h'.tmb,
    h'.pending.trans h.pending⟩

theorem sameBut_pct (s : State) (x : Ports) : s.SameBut [.pct] { s with pct := x } :=
  ⟨.inl (by decide), .inr rfl, .inr rfl, .inr rfl, .inr rfl, .inr rfl, .inr rfl, .inr rfl, .inr rfl, rfl⟩
theorem sameBut_cpl (s : State) (x : CircuitPool) : s.SameBut [.cpl] { s with cpl := x } :=
  ⟨.inr rfl, .inl (by decide), .inr rfl, .inr rfl, .inr rfl, .inr rfl, .inr rfl, .inr rfl, .inr rfl, rfl⟩
theorem sameBut_crt (s : State) (x : CallTable) : s.SameBut [.crt] { s with crt := x } :=
  ⟨.inr rfl, .inr rfl, .inl (by decide), .inr rfl, .inr rfl, .inr rfl, .inr rfl, .inr rfl, .inr rfl, rfl⟩
theorem sameBut_rse (s : State) (x : RouteEngine) : s.SameBut [.rse] { s with rse := x } :=
  ⟨.inr rfl, .inr rfl, .inr rfl, .inl (by decide), .inr rfl, .inr rfl, .inr rfl, .inr rfl, .inr rfl, rfl⟩
theorem sameBut_cmn (s : State) (x : CongestionMonitor) : s.SameBut [.cmn] { s with cmn := x } :=
  ⟨.inr rfl, .inr rfl, .inr rfl, .inr rfl, .inl (by decide), .inr rfl, .inr rfl, .inr rfl, .inr rfl, rfl⟩
theorem sameBut_cau (s : State) (x : AgreementUnit) : s.SameBut [.cau] { s with cau := x } :=
  ⟨.inr rfl, .inr rfl, .inr rfl, .inr rfl, .inr rfl, .inl (by decide), .inr rfl, .inr rfl, .inr rfl, rfl⟩
theorem sameBut_hru (s : State) (x : RatingUnit) : s.SameBut [.hru] { s with hru := x } :=
  ⟨.inr rfl, .inr rfl, .inr rfl, .inr rfl, .inr rfl, .inr rfl, .inl (by decide), .inr rfl, .inr rfl, rfl⟩
theorem sameBut_sts (s : State) (x : SettlementStore) : s.SameBut [.sts] { s with sts := x } :=
  ⟨.inr rfl, .inr rfl, .inr rfl, .inr rfl, .inr rfl, .inr rfl, .inr rfl, .inl (by decide), .inr rfl, rfl⟩
theorem sameBut_tmb (s : State) (x : TimeBase) : s.SameBut [.tmb] { s with tmb := x } :=
  ⟨.inr rfl, .inr rfl, .inr rfl, .inr rfl, .inr rfl, .inr rfl, .inr rfl, .inr rfl, .inl (by decide), rfl⟩

theorem sameBut_deliver (s : State) (r : Requester) (c : Instr) (a : Reply) : s.SameBut [.pct] (s.deliver r c a) := by
  cases r <;> exact sameBut_pct s _

/-- A delivery touches PCT only. -/
theorem State.SameBut.deliver (h : s.SameBut bs u) (hb : Block.pct ∈ bs) (r : Requester) (c : Instr) (a : Reply) :
    s.SameBut bs (u.deliver r c a) :=
  h.trans ((sameBut_deliver u r c a).mono (by simpa using hb))

end SameBut
end Sys2Proof.Machine
end

section
/-! SUPPORT. The frame of every command: which of the nine blocks it may touch. -/

namespace Sys2Proof.Machine

open Sys2Proof (Instr)

/-- The blocks that a command may touch; every other block, and the queue of commands, it leaves. -/
def touches : Instr → List Block
  | .powerOnReset _ => [.pct, .cpl, .crt, .rse, .cmn, .cau, .hru, .sts, .tmb]
  | .millisecondTick => [.sts, .tmb]
  | .gapExpiry _ => []
  | .route _ _ _ _ | .reroute _ _ _ => [.pct, .cpl, .crt, .rse, .cmn]
  | .release _ _ _ => [.pct, .cpl, .crt, .sts]
  | .confirm _ _ _ | .guardExpiry _ | .exchangeRestart _ => [.pct, .cpl, .crt]
  | .answer _ _ _ | .setGuard _ _ | .adoptPort _ _ _ => [.pct, .crt]
  | .defineGroupDefine _ _ _ | .defineGroupRemove _ _ _ => [.pct, .cpl, .cmn]
  | .setGroupStateBlock _ _ | .setGroupStateUnblock _ _ _ | .setReserve _ _ _ | .circuitMaintOut _ _
  | .circuitMaintReturn _ _ _ => [.pct, .cpl]
  | .engineGrant | .writeDest _ _ _ _ | .writeRouteSet _ _ _ | .maskChoice _ _ _ _ | .setFirst _ _ _
  | .farCongestion _ _ _ _ | .farClear _ _ | .restrictionEnd _ => [.pct, .rse]
  | .periodEnd | .writeProfile _ _ _ | .setPeriod _ _ | .readCongestionGroup _ _ _ => [.pct, .cmn]
  | .writeLocalOffer _ _ _ | .writeCarrierOffer _ _ _ | .confirmAgreement _ _ _ | .withdrawAgreement _ _ =>
    [.pct, .cau]
  | .writeTariff _ _ _ _ | .writeBands _ _ => [.pct, .hru]
  | .closePeriod _ | .automaticClose | .releaseBank _ _ => [.pct, .hru, .sts]
  | .setAutoCloseOff _ | .setAutoCloseSecond _ _ _ => [.pct, .sts]
  | .setTime _ _ _ _ => [.pct, .tmb]
  | .lineIndicationLost _ | .lineIndicationGood _ | .linkUp _ | .frameArrival _ _ _ | .replySent _
  | .queryCall _ _ _ | .readGroupSummary _ _ _ | .readGroupCircuit _ _ _ _ | .readGroupFreeList _ _ _ _
  | .readDestDestination _ _ | .readDestRouteSet _ _ _ | .readCongestionProfile _ _ | .readCongestionPeriod _ _
  | .readAgreement _ _ _ | .readTariffClass _ _ _ _ | .readTariffBand _ _ _ | .readBank _ _ _ _ | .readTime _
  | .takeNotices _ | .setNoticeMask _ _ | .portStatus _ _ | .identify _ => [.pct]

/-! ### The shared operations -/

section Operations

variable (s : State)

theorem setPort_sameBut (p : PortId) (q : Port) : s.SameBut [.pct] (s.setPort p q) := sameBut_pct s _
theorem raiseAll_sameBut (b : NoticeBody) : s.SameBut [.pct] (s.raiseAll b) := sameBut_pct s _
theorem raiseTo_sameBut (p : PortId) (b : NoticeBody) : s.SameBut [.pct] (s.raiseTo p b) := sameBut_pct s _
theorem setGroup_sameBut (g : Nat) (r : Option Group) : s.SameBut [.cpl] (s.setGroup g r) := sameBut_cpl s _
theorem setCircuit_sameBut (c : Nat) (v : Circuit) : s.SameBut [.cpl] (s.setCircuit c v) := sameBut_cpl s _
theorem setCall_sameBut (i : Nat) (r : Option CallRecord) : s.SameBut [.crt] (s.setCall i r) := sameBut_crt s _
theorem setDest_sameBut (d : Nat) (r : Dest) : s.SameBut [.rse] (s.setDest d r) := sameBut_rse s _
theorem setCongestion_sameBut (g : Nat) (r : CongestionRecord) : s.SameBut [.cmn] (s.setCongestion g r) :=
  sameBut_cmn s _
theorem setAgreement_sameBut (c : Nat) (r : Agreement) : s.SameBut [.cau] (s.setAgreement c r) := sameBut_cau s _
theorem setBank_sameBut (k : BankId) (b : Bank) : s.SameBut [.sts] (s.setBank k b) := sameBut_sts s _
theorem freeRecord_sameBut (i : Nat) : s.SameBut [.crt] (freeRecord i s) := sameBut_crt s _
theorem makeRecord_sameBut (i : Nat) (r : CallRecord) : s.SameBut [.crt] (makeRecord i r s) := sameBut_crt s _
theorem holdCircuit_sameBut (c : Nat) : s.SameBut [.cpl] (holdCircuit c s) := setCircuit_sameBut s _ _

theorem holdOutbound_sameBut (r : CallRecord) : s.SameBut [.cpl] (holdOutbound r s) := by
  unfold holdOutbound
  split
  · exact holdCircuit_sameBut s _
  · exact .refl _ _

theorem outboundHunt_sameBut (g c : Nat) : s.SameBut [.cpl] (outboundHunt g c s) := by
  unfold outboundHunt
  split
  · exact .refl _ _
  · exact (setGroup_sameBut s _ _).trans (setCircuit_sameBut _ _ _)

theorem inboundTake_sameBut (g c : Nat) : s.SameBut [.cpl] (inboundTake g c s) := by
  unfold inboundTake
  split
  · exact .refl _ _
  · exact (setGroup_sameBut s _ _).trans (setCircuit_sameBut _ _ _)

theorem freeCircuit_sameBut (g c : Nat) : s.SameBut [.pct, .cpl] (freeCircuit g c s) := by
  obtain ⟨h1, h2, h3, h4, h5, h6, h7, h8⟩ := freeCircuit_frame g c s
  exact ⟨.inl (by decide), .inl (by decide), .inr h1, .inr h2, .inr h3, .inr h4, .inr h5, .inr h6, .inr h7, h8⟩

theorem freeOutbound_sameBut (r : CallRecord) : s.SameBut [.pct, .cpl] (freeOutbound r s) := by
  obtain ⟨h1, h2, h3, h4, h5, h6, h7, h8⟩ := freeOutbound_frame r s
  exact ⟨.inl (by decide), .inl (by decide), .inr h1, .inr h2, .inr h3, .inr h4, .inr h5, .inr h6, .inr h7, h8⟩

theorem freeInbound_sameBut (r : CallRecord) : s.SameBut [.pct, .cpl] (freeInbound r s) := by
  obtain ⟨h1, h2, h3, h4, h5, h6, h7, h8⟩ := freeInbound_frame r s
  exact ⟨.inl (by decide), .inl (by decide), .inr h1, .inr h2, .inr h3, .inr h4, .inr h5, .inr h6, .inr h7, h8⟩

theorem freeCall_sameBut (i : Nat) (r : CallRecord) : s.SameBut [.pct, .cpl, .crt] (freeCall i r s) :=
  (((freeOutbound_sameBut s r).trans (freeInbound_sameBut _ r)).mono (by simp)).trans
    ((freeRecord_sameBut _ i).mono (by simp))

theorem accumulateLeg_sameBut (leg : Option RatedLeg) : s.SameBut [.sts] (accumulateLeg leg s) := by
  cases leg with
  | none => exact .refl _ _
  | some l => exact setBank_sameBut s _ _

theorem selectRoute_sameBut (d : Nat) (cls : CallClass) (inbound : Option Nat) :
    s.SameBut [.cmn] (selectRoute d cls inbound s).2 := by
  obtain ⟨records, h⟩ := selectRoute_frame d cls inbound s
  rw [h]; exact sameBut_cmn s _

theorem displace_sameBut (c : Nat) : s.SameBut [.pct, .crt] (displace c s) := by
  unfold displace
  split
  · exact .refl _ _
  · split
    · exact .refl _ _
    · exact ((setCall_sameBut s _ _).mono (by simp)).trans ((raiseTo_sameBut _ _ _).mono (by simp))

theorem grant_sameBut (p : PortId) : s.SameBut [.pct, .rse] (grant p s) :=
  ((setPort_sameBut s _ _).mono (by simp)).trans ((sameBut_rse _ _).mono (by simp))

theorem openDest_sameBut (d : Nat) : s.SameBut [.pct, .rse] (openDest d s) :=
  ((setDest_sameBut s _ _).mono (by simp)).trans ((raiseAll_sameBut _ _).mono (by simp))

theorem rewriteAgreement_sameBut (c : Nat) (a : Agreement) : s.SameBut [.pct, .cau] (rewriteAgreement c a s) := by
  unfold rewriteAgreement
  simp only
  split
  · exact (setAgreement_sameBut s _ _).mono (by simp)
  · exact ((setAgreement_sameBut s _ _).mono (by simp)).trans ((raiseAll_sameBut _ _).mono (by simp))

theorem takeTariffs_sameBut : s.SameBut [.hru] (takeTariffs s) := sameBut_hru s _

theorem swapBanks_sameBut : s.SameBut [.pct, .hru, .sts] (swapBanks s) := by
  unfold swapBanks
  simp only
  refine .trans ?_ ((raiseAll_sameBut _ _).mono (by simp))
  refine .trans ?_ ((takeTariffs_sameBut _).mono (by simp))
  exact (((setBank_sameBut s _ _).trans (setBank_sameBut _ _ _)).trans (sameBut_sts _ _)).mono (by simp)

theorem deferClose_sameBut : s.SameBut [.pct, .hru, .sts] (deferClose s) := by
  unfold deferClose
  split
  · exact .refl _ _
  · exact ((sameBut_sts s _).mono (by simp)).trans ((raiseAll_sameBut _ _).mono (by simp))

theorem performClose_sameBut : s.SameBut [.pct, .hru, .sts] (performClose s) := by
  unfold performClose
  split
  · exact deferClose_sameBut s
  · exact swapBanks_sameBut s

theorem measureEntry_sameBut (e : Nat × Option Group) : s.SameBut [.pct, .cmn] (measureEntry s e) := by
  unfold measureEntry measureGroup
  simp only
  split
  · split
    · exact (setCongestion_sameBut s _ _).mono (by simp)
    · exact ((setCongestion_sameBut s _ _).mono (by simp)).trans ((raiseAll_sameBut _ _).mono (by simp))
  · exact .refl _ _

/-- A run of steps each of which touches the listed blocks alone. -/
theorem foldl_sameBut {α : Type} (bs : List Block) (f : State → α → State) (hf : ∀ (u : State) e, u.SameBut bs (f u e))
    (l : List α) (u : State) : u.SameBut bs (l.foldl f u) := by
  induction l generalizing u with
  | nil => exact .refl _ _
  | cons e l ih => exact (hf u e).trans (ih _)

theorem endPeriod_sameBut : s.SameBut [.pct, .cmn] (endPeriod s) :=
  (foldl_sameBut _ _ measureEntry_sameBut s.cpl.groups s).trans ((sameBut_cmn _ _).mono (by simp))

theorem resetLatch_sameBut (g : Nat) : s.SameBut [.cmn] (resetLatch s g) := by
  unfold resetLatch
  split
  · exact .refl _ _
  · exact setCongestion_sameBut s _ _

theorem takeOut_sameBut (g c : Nat) : s.SameBut [.cpl] (takeOut g c s) := by
  unfold takeOut moveCircuit
  split
  · split
    · exact .refl _ _
    · exact (setCircuit_sameBut s _ _).trans (setGroup_sameBut _ _ _)
  · exact setCircuit_sameBut s _ _
  · exact setCircuit_sameBut s _ _
  · exact .refl _ _

theorem putBack_sameBut (g c : Nat) : s.SameBut [.cpl] (putBack g c s) := by
  unfold putBack moveCircuit
  split
  · split
    · exact .refl _ _
    · exact (setCircuit_sameBut s _ _).trans (setGroup_sameBut _ _ _)
  · exact setCircuit_sameBut s _ _
  · exact setCircuit_sameBut s _ _
  · exact .refl _ _

theorem rewriteGroup_sameBut (g : Nat) (r : Option Group) (circuits : Table Circuit) :
    s.SameBut [.cpl, .cmn] (rewriteGroup g r circuits s) :=
  ((sameBut_cpl s _).mono (by simp)).trans ((sameBut_cmn _ _).mono (by simp))

end Operations

/-! ### The blocks' own part in each request -/

section Requests

variable (s : State)

theorem takeInbound_sameBut (plan : InboundPlan) : s.SameBut [.cpl] (takeInbound plan s) := by
  cases plan with
  | originating => exact .refl _ _
  | take g c => exact inboundTake_sameBut s g c
  | displaced g c => exact holdCircuit_sameBut s c

theorem dropInbound_sameBut (plan : InboundPlan) : s.SameBut [.pct, .cpl] (dropInbound plan s) := by
  cases plan with
  | originating => exact .refl _ _
  | take g c => exact .refl _ _
  | displaced g c => exact freeCircuit_sameBut s g c

theorem completeRoute_sameBut (p : PortId) (d : Nat) (cls : CallClass) (plan : InboundPlan) (i : Nat) (w : Winner) :
    s.SameBut [.cpl, .crt, .rse] (completeRoute p d cls plan i w s).2 :=
  ((((takeInbound_sameBut s plan).trans (outboundHunt_sameBut _ _ _)).mono (by simp)).trans
    ((makeRecord_sameBut _ _ _).mono (by simp))).trans ((setDest_sameBut _ _ _).mono (by simp))

theorem routeWith_sameBut (p : PortId) (d : Nat) (cls : CallClass) (plan : InboundPlan) (i : Nat) :
    s.SameBut [.pct, .cpl, .crt, .rse, .cmn] (routeWith p d cls plan i s).2 := by
  have hsel := (selectRoute_sameBut s d cls (planGroup plan)).mono (bs' := [.pct, .cpl, .crt, .rse, .cmn]) (by simp)
  unfold routeWith
  split <;> rename_i he <;> rw [he] at hsel
  · exact hsel.trans ((dropInbound_sameBut _ _).mono (by simp))
  · exact hsel.trans ((completeRoute_sameBut _ _ _ _ _ _ _).mono (by simp))

theorem routeCall_sameBut (p : PortId) (d n : Nat) (inb : Option Nat) :
    s.SameBut [.pct, .cpl, .crt, .rse, .cmn] (routeCall p d n inb s).2 := by
  unfold routeCall
  split
  · exact .refl _ _
  split
  · exact .refl _ _
  split
  · exact .refl _ _
  unfold routeInbound
  split
  · exact routeWith_sameBut _ _ _ _ _ _
  split
  · exact .refl _ _
  · exact routeWith_sameBut _ _ _ _ _ _
  · exact ((displace_sameBut s _).mono (by simp)).trans (routeWith_sameBut _ _ _ _ _ _)

theorem rerouteCall_sameBut (p : PortId) (i g : Nat) :
    s.SameBut [.pct, .cpl, .crt, .rse, .cmn] (rerouteCall p i g s).2 := by
  unfold rerouteCall
  split
  · exact .refl _ _
  rename_i r _
  have hsel := (selectRoute_sameBut s r.dest r.cls (r.inbound.map (·.group))).mono
    (bs' := [.pct, .cpl, .crt, .rse, .cmn]) (by simp)
  split
  · unfold rerouteRecord
    split <;> rename_i he <;> rw [he] at hsel
    · exact hsel
    · exact ((hsel.trans ((outboundHunt_sameBut _ _ _).mono (by simp))).trans
        ((setCall_sameBut _ _ _).mono (by simp))).trans ((setDest_sameBut _ _ _).mono (by simp))
  all_goals exact .refl _ _

theorem confirmCall_sameBut (p : PortId) (i g : Nat) : s.SameBut [.cpl, .crt] (confirmCall p i g s).2 := by
  unfold confirmCall
  split
  · exact .refl _ _
  split
  · exact ((setCall_sameBut s _ _).mono (by simp)).trans ((holdOutbound_sameBut _ _).mono (by simp))
  all_goals exact .refl _ _

theorem answerCall_sameBut (p : PortId) (i g : Nat) : s.SameBut [.crt] (answerCall p i g s).2 := by
  unfold answerCall
  split
  · exact .refl _ _
  split
  · exact setCall_sameBut s _ _
  all_goals exact .refl _ _

theorem releaseRated_sameBut (i : Nat) (r : CallRecord) :
    s.SameBut [.pct, .cpl, .crt, .sts] (releaseRated i r s).2 :=
  (((accumulateLeg_sameBut s _).trans (accumulateLeg_sameBut _ _)).mono (by simp)).trans
    ((freeCall_sameBut _ _ _).mono (by simp))

theorem releaseCall_sameBut (p : PortId) (i g : Nat) :
    s.SameBut [.pct, .cpl, .crt, .sts] (releaseCall p i g s).2 := by
  unfold releaseCall
  split
  · exact .refl _ _
  split
  case h_4 => exact ((freeInbound_sameBut s _).mono (by simp)).trans ((freeRecord_sameBut _ _).mono (by simp))
  all_goals exact releaseRated_sameBut s _ _

theorem adoptPort_sameBut (f t : Nat) : s.SameBut [.pct, .crt] (adoptPort f t s).2 := by
  unfold adoptPort
  split
  · split
    · exact .refl _ _
    · exact ((sameBut_crt s _).mono (by simp)).trans ((raiseTo_sameBut _ _ _).mono (by simp))
  · exact .refl _ _

theorem exchangeRestart_sameBut : s.SameBut [.cpl, .crt] (exchangeRestart s).2 :=
  ((sameBut_cpl s (restartPool s.cpl)).mono (by simp)).trans ((sameBut_crt _ (exchangeRestart s).2.crt).mono (by simp))

theorem tick_sameBut : s.SameBut [.sts, .tmb] (tick s) :=
  ((sameBut_sts s (tick s).sts).mono (by simp)).trans ((sameBut_tmb _ (tick s).tmb).mono (by simp))

/-- AUTOMATIC_CLOSE clears what made it due, and closes the period. -/
theorem automaticClose_sameBut :
    s.SameBut [.pct, .hru, .sts] (performClose { s with sts := { s.sts with closeDue := false } }) :=
  ((sameBut_sts s _).mono (by simp)).trans (performClose_sameBut _)

theorem defineGroup_sameBut (g : Nat) (a : GroupArg) : s.SameBut [.cpl, .cmn] (defineGroup g a s).2 := by
  unfold defineGroup
  split
  · exact .refl _ _
  split
  · exact .refl _ _
  split
  · exact .refl _ _
  split
  · exact .refl _ _
  · exact rewriteGroup_sameBut s _ _ _

theorem removeGroup_sameBut (g form : Nat) : s.SameBut [.cpl, .cmn] (removeGroup g form s).2 := by
  unfold removeGroup
  split
  · exact .refl _ _
  split
  · exact .refl _ _
  · exact rewriteGroup_sameBut s _ _ _

theorem blockGroup_sameBut (g : Nat) : s.SameBut [.cpl] (blockGroup g s).2 := by
  unfold blockGroup
  split
  · exact .refl _ _
  split
  · exact .refl _ _
  · exact setGroup_sameBut s _ _

theorem unblockGroup_sameBut (g form : Nat) : s.SameBut [.cpl] (unblockGroup g form s).2 := by
  unfold unblockGroup
  split
  · exact .refl _ _
  split
  · exact .refl _ _
  · exact setGroup_sameBut s _ _

theorem setReserve_sameBut (g n : Nat) : s.SameBut [.cpl] (setReserve g n s).2 := by
  unfold setReserve
  split
  · exact .refl _ _
  split
  · exact .refl _ _
  · exact setGroup_sameBut s _ _

theorem circuitOut_sameBut (c : Nat) : s.SameBut [.cpl] (circuitOut c s).2 := by
  unfold circuitOut
  split
  · exact .refl _ _
  split
  · exact .refl _ _
  · exact takeOut_sameBut s _ _

theorem circuitReturn_sameBut (c form : Nat) : s.SameBut [.cpl] (circuitReturn c form s).2 := by
  unfold circuitReturn
  split
  · exact .refl _ _
  split
  · exact .refl _ _
  · exact putBack_sameBut s _ _

theorem writeDest_sameBut (d : Nat) (f : Byte) (l : List ChoiceArg) : s.SameBut [.rse] (writeDest d f l s).2 := by
  unfold writeDest
  split
  · exact .refl _ _
  split
  · exact .refl _ _
  · exact setDest_sameBut s _ _

theorem writeRouteSet_sameBut (n : Nat) (l : List SetEntryArg) : s.SameBut [.rse] (writeRouteSet n l s).2 := by
  unfold writeRouteSet
  split
  · exact .refl _ _
  · exact sameBut_rse s _

theorem maskChoice_sameBut (d i m : Nat) : s.SameBut [.rse] (maskChoice d i m s).2 := by
  unfold maskChoice
  split
  · exact .refl _ _
  split
  · exact .refl _ _
  · exact setDest_sameBut s _ _

theorem setFirst_sameBut (d i : Nat) : s.SameBut [.rse] (setFirst d i s).2 := by
  unfold setFirst
  split
  · exact .refl _ _
  split
  · exact .refl _ _
  split
  · exact setDest_sameBut s _ _
  · exact .refl _ _

theorem farCongestion_sameBut (d g n : Nat) : s.SameBut [.rse] (farCongestion d g n s).2 := by
  unfold farCongestion
  split
  · exact .refl _ _
  · exact setDest_sameBut s _ _

theorem farClear_sameBut (d : Nat) : s.SameBut [.pct, .rse] (farClear d s).2 := by
  unfold farClear
  split
  · exact .refl _ _
  split
  · exact .refl _ _
  · exact openDest_sameBut s _

theorem writeProfile_sameBut (n : Nat) (p : Profile) : s.SameBut [.cmn] (writeProfile n p s).2 := by
  unfold writeProfile
  split
  · exact .refl _ _
  · exact sameBut_cmn s _

theorem setPeriod_sameBut (n : Nat) : s.SameBut [.cmn] (setPeriod n s).2 := by
  unfold setPeriod
  split
  · exact .refl _ _
  · exact sameBut_cmn s _

theorem readCongestion_sameBut (a n : Nat) : s.SameBut [.cmn] (readCongestion a n s).2 := by
  unfold readCongestion
  split
  · exact .refl _ _
  · exact foldl_sameBut _ _ resetLatch_sameBut _ s

theorem writeLocalOffer_sameBut (c : Nat) (l : List Nat) : s.SameBut [.pct, .cau] (writeLocalOffer c l s).2 := by
  unfold writeLocalOffer
  split
  · exact .refl _ _
  · exact rewriteAgreement_sameBut s _ _

theorem writeCarrierOffer_sameBut (c : Nat) (l : List Nat) : s.SameBut [.pct, .cau] (writeCarrierOffer c l s).2 := by
  unfold writeCarrierOffer
  split
  · exact .refl _ _
  · exact rewriteAgreement_sameBut s _ _

theorem confirmAgreement_sameBut (c n : Nat) : s.SameBut [.pct, .cau] (confirmAgreement c n s).2 := by
  unfold confirmAgreement
  split
  · exact .refl _ _
  split
  · exact rewriteAgreement_sameBut s _ _
  all_goals exact .refl _ _

theorem withdrawAgreement_sameBut (c : Nat) : s.SameBut [.pct, .cau] (withdrawAgreement c s).2 := by
  unfold withdrawAgreement
  split
  · exact .refl _ _
  · exact rewriteAgreement_sameBut s _ _

theorem writeTariff_sameBut (c n : Nat) (t : TariffClass) : s.SameBut [.hru] (writeTariff c n t s).2 := by
  unfold writeTariff
  split
  · exact .refl _ _
  · exact sameBut_hru s _

theorem writeBands_sameBut (l : List SwitchPoint) : s.SameBut [.hru] (writeBands l s).2 := by
  unfold writeBands
  split
  · exact sameBut_hru s _
  · exact .refl _ _

theorem closePeriod_sameBut : s.SameBut [.pct, .hru, .sts] (closePeriod s).2 := by
  unfold closePeriod
  simp only
  split <;> exact performClose_sameBut s

theorem setAutoCloseSecond_sameBut (f n : Nat) : s.SameBut [.sts] (setAutoCloseSecond f n s).2 := by
  unfold setAutoCloseSecond
  split
  · exact .refl _ _
  · exact sameBut_sts s _

theorem collectBank_sameBut (k : BankId) : s.SameBut [.pct, .hru, .sts] (collectBank k s).2 := by
  have hset := (setBank_sameBut s k ⟨.available, []⟩).mono (bs' := [.pct, .hru, .sts]) (by simp)
  unfold collectBank
  simp only
  split
  · exact hset.trans (swapBanks_sameBut _)
  · exact hset

theorem releaseBank_sameBut (n : Nat) : s.SameBut [.pct, .hru, .sts] (releaseBank n s).2 := by
  unfold releaseBank
  split
  · exact .refl _ _
  split
  · exact collectBank_sameBut s _
  all_goals exact .refl _ _

theorem setTime_sameBut (d n m : Nat) : s.SameBut [.tmb] (setTime d n m s).2 := by
  unfold setTime
  split
  · exact .refl _ _
  · exact sameBut_tmb s _

theorem setNoticeMask_sameBut (p : PortId) (m : Byte) : s.SameBut [.pct] (setNoticeMask p m s).2 := by
  unfold setNoticeMask
  split
  · exact .refl _ _
  · exact setPort_sameBut s _ _

theorem portStatus_sameBut (p : PortId) (n : Nat) : s.SameBut [.pct] (portStatus p n s).2 := by
  unfold portStatus
  split
  · exact .refl _ _
  · simp only
    split
    · exact setPort_sameBut s _ _
    · exact .refl _ _

end Requests

/-! ### Reads -/

section Reads

variable (s : State)

theorem readGroupSummary_state (g form : Nat) : (readGroupSummary g form s).2 = s := by
  unfold readGroupSummary; split <;> rfl
theorem readGroupCircuit_state (g a n : Nat) : (readGroupCircuit g a n s).2 = s := by
  unfold readGroupCircuit
  split
  · rfl
  split
  · rfl
  split <;> rfl
theorem readGroupFreeList_state (g a n : Nat) : (readGroupFreeList g a n s).2 = s := by
  unfold readGroupFreeList
  split
  · rfl
  split <;> rfl
theorem readDest_state (d : Nat) : (readDest d s).2 = s := by unfold readDest; split <;> rfl
theorem readRouteSet_state (f n : Nat) : (readRouteSet f n s).2 = s := by unfold readRouteSet; split <;> rfl
theorem readProfile_state (n : Nat) : (readProfile n s).2 = s := by unfold readProfile; split <;> rfl
theorem readPeriod_state (f : Nat) : (readPeriod f s).2 = s := by unfold readPeriod; split <;> rfl
theorem readAgreement_state (a n : Nat) : (readAgreement a n s).2 = s := by unfold readAgreement; split <;> rfl
theorem readTariffClass_state (k c n : Nat) : (readTariffClass k c n s).2 = s := by
  unfold readTariffClass
  split
  · rfl
  split <;> rfl
theorem readTariffBand_state (f k : Nat) : (readTariffBand f k s).2 = s := by
  unfold readTariffBand
  split
  · rfl
  split <;> rfl
theorem readBank_state (k a n : Nat) : (readBank k a n s).2 = s := by
  unfold readBank
  split
  · rfl
  split <;> rfl
theorem queryCall_state (i g : Nat) : (queryCall i g s).2 = s := by unfold queryCall; split <;> rfl

end Reads

/-! ### Every command -/

/-- A request row touches PCT and what its block's part touches. -/
theorem serve_sameBut {r : Requester} {c : Instr} {f : State → Reply × State} {s t : State} {bs bs' : List Block}
    (hf : s.SameBut bs (f s).2) (hb : .pct :: bs ⊆ bs') (h : serve r c f s = .next t) : s.SameBut bs' t :=
  serve_keeps (P := s.SameBut bs') (fun _ a hu => hu.deliver (hb (by simp)) r c a) (.refl _ _)
    (hf.mono fun _ hx => hb (List.mem_cons_of_mem _ hx)) h

/-- A request row whose block leaves the state as it is touches PCT alone. -/
theorem serve_read_sameBut {r : Requester} {c : Instr} {f : State → Reply × State} {s t : State}
    (hf : (f s).2 = s) (h : serve r c f s = .next t) : s.SameBut [.pct] t :=
  serve_sameBut (bs := []) (hf.symm ▸ .refl _ _) (by simp) h

theorem eventWhen_sameBut {due : Bool} {f : State → State} {s t : State} {bs bs' : List Block}
    (h : eventWhen due f s = .next t) (hf : s.SameBut bs (f s)) (hb : bs ⊆ bs') : s.SameBut bs' t :=
  eventWhen_keeps (P := s.SameBut bs') (.refl _ _) (fun _ => hf.mono hb) h

/-- The state after a command that always takes place. -/
theorem next_inj {s t : State} (h : (.next s : Host.Outcome State Fault Refusal) = .next t) : t = s :=
  (Host.Outcome.next.inj h).symm

theorem execGuardExpiry_sameBut {i : Nat} {s t : State} (h : execGuardExpiry i s = .next t) :
    s.SameBut [.pct, .cpl, .crt] t := by
  unfold execGuardExpiry at h
  split at h
  · exact next_inj h ▸ .refl _ _
  · exact eventWhen_sameBut h ((freeCall_sameBut s _ _).trans ((raiseTo_sameBut _ _ _).mono (by simp))) (by simp)

theorem execEngineGrant_sameBut {s t : State} (h : execEngineGrant s = .next t) : s.SameBut [.pct, .rse] t := by
  unfold execEngineGrant at h
  split at h
  · exact eventWhen_sameBut h (grant_sameBut s _) (by simp)
  · exact next_inj h ▸ .refl _ _

/-- Every command leaves the blocks that `touches` does not name, and the queue of commands. -/
theorem exec_sameBut {c : Instr} {s t : State} (h : exec c s = .next t) : s.SameBut (touches c) t := by
  cases c with
  | powerOnReset pins =>
    obtain rfl := next_inj h
    exact ⟨.inl (by simp [touches]), .inl (by simp [touches]), .inl (by simp [touches]), .inl (by simp [touches]),
      .inl (by simp [touches]), .inl (by simp [touches]), .inl (by simp [touches]), .inl (by simp [touches]),
      .inl (by simp [touches]), rfl⟩
  | millisecondTick => exact eventWhen_sameBut h (tick_sameBut s) (by simp [touches])
  | lineIndicationLost p =>
    rw [exec, execLineIndicationLost] at h
    exact eventWhen_sameBut h (setPort_sameBut s _ _) (by simp [touches])
  | lineIndicationGood p =>
    rw [exec, execLineIndicationGood] at h
    exact eventWhen_sameBut h (setPort_sameBut s _ _) (by simp [touches])
  | linkUp p =>
    rw [exec, execLinkUp] at h
    exact eventWhen_sameBut h (setPort_sameBut s _ _) (by simp [touches])
  | frameArrival p bytes stopFault => exact next_inj h ▸ setPort_sameBut s _ _
  | engineGrant => exact execEngineGrant_sameBut h
  | replySent p => exact next_inj h ▸ setPort_sameBut s _ _
  | route r d n inb => exact serve_sameBut (routeCall_sameBut s _ _ _ _) (by simp [touches]) h
  | confirm r i g => exact serve_sameBut (confirmCall_sameBut s _ _ _) (by simp [touches]) h
  | answer r i g => exact serve_sameBut (answerCall_sameBut s _ _ _) (by simp [touches]) h
  | release r i g => exact serve_sameBut (releaseCall_sameBut s _ _ _) (by simp [touches]) h
  | reroute r i g => exact serve_sameBut (rerouteCall_sameBut s _ _ _) (by simp [touches]) h
  | queryCall r i g => exact serve_read_sameBut (queryCall_state s _ _) h
  | guardExpiry i => exact execGuardExpiry_sameBut h
  | setGuard r n => exact serve_sameBut (sameBut_crt s _) (by simp [touches]) h
  | adoptPort r f t => exact serve_sameBut (adoptPort_sameBut s _ _) (by simp [touches]) h
  | exchangeRestart r => exact serve_sameBut (exchangeRestart_sameBut s) (by simp [touches]) h
  | defineGroupDefine r g a => exact serve_sameBut (defineGroup_sameBut s _ _) (by simp [touches]) h
  | defineGroupRemove r g f => exact serve_sameBut (removeGroup_sameBut s _ _) (by simp [touches]) h
  | setGroupStateBlock r g => exact serve_sameBut (blockGroup_sameBut s _) (by simp [touches]) h
  | setGroupStateUnblock r g f => exact serve_sameBut (unblockGroup_sameBut s _ _) (by simp [touches]) h
  | setReserve r g n => exact serve_sameBut (setReserve_sameBut s _ _) (by simp [touches]) h
  | circuitMaintOut r c => exact serve_sameBut (circuitOut_sameBut s _) (by simp [touches]) h
  | circuitMaintReturn r c f => exact serve_sameBut (circuitReturn_sameBut s _ _) (by simp [touches]) h
  | readGroupSummary r g f => exact serve_read_sameBut (readGroupSummary_state s _ _) h
  | readGroupCircuit r g a n => exact serve_read_sameBut (readGroupCircuit_state s _ _ _) h
  | readGroupFreeList r g a n => exact serve_read_sameBut (readGroupFreeList_state s _ _ _) h
  | writeDest r d f l => exact serve_sameBut (writeDest_sameBut s _ _ _) (by simp [touches]) h
  | writeRouteSet r n l => exact serve_sameBut (writeRouteSet_sameBut s _ _) (by simp [touches]) h
  | maskChoice r d i m => exact serve_sameBut (maskChoice_sameBut s _ _ _) (by simp [touches]) h
  | setFirst r d i => exact serve_sameBut (setFirst_sameBut s _ _) (by simp [touches]) h
  | readDestDestination r d => exact serve_read_sameBut (readDest_state s _) h
  | readDestRouteSet r f n => exact serve_read_sameBut (readRouteSet_state s _ _) h
  | farCongestion r d g n => exact serve_sameBut (farCongestion_sameBut s _ _ _) (by simp [touches]) h
  | farClear r d => exact serve_sameBut (farClear_sameBut s _) (by simp [touches]) h
  | gapExpiry d => exact next_inj h ▸ .refl _ _
  | restrictionEnd d => exact eventWhen_sameBut h (openDest_sameBut s _) (by simp [touches])
  | periodEnd => exact eventWhen_sameBut h (endPeriod_sameBut s) (by simp [touches])
  | writeProfile r n p => exact serve_sameBut (writeProfile_sameBut s _ _) (by simp [touches]) h
  | setPeriod r n => exact serve_sameBut (setPeriod_sameBut s _) (by simp [touches]) h
  | readCongestionGroup r a n => exact serve_sameBut (readCongestion_sameBut s _ _) (by simp [touches]) h
  | readCongestionProfile r n => exact serve_read_sameBut (readProfile_state s _) h
  | readCongestionPeriod r f => exact serve_read_sameBut (readPeriod_state s _) h
  | writeLocalOffer r c l => exact serve_sameBut (writeLocalOffer_sameBut s _ _) (by simp [touches]) h
  | writeCarrierOffer r c l => exact serve_sameBut (writeCarrierOffer_sameBut s _ _) (by simp [touches]) h
  | confirmAgreement r c n => exact serve_sameBut (confirmAgreement_sameBut s _ _) (by simp [touches]) h
  | withdrawAgreement r c => exact serve_sameBut (withdrawAgreement_sameBut s _) (by simp [touches]) h
  | readAgreement r a n => exact serve_read_sameBut (readAgreement_state s _ _) h
  | writeTariff r c n v => exact serve_sameBut (writeTariff_sameBut s _ _ _) (by simp [touches]) h
  | writeBands r l => exact serve_sameBut (writeBands_sameBut s _) (by simp [touches]) h
  | readTariffClass r k c n => exact serve_read_sameBut (readTariffClass_state s _ _ _) h
  | readTariffBand r f k => exact serve_read_sameBut (readTariffBand_state s _ _) h
  | closePeriod r => exact serve_sameBut (closePeriod_sameBut s) (by simp [touches]) h
  | automaticClose =>
    rw [exec, execAutomaticClose] at h
    exact eventWhen_sameBut h (automaticClose_sameBut s) (by simp [touches])
  | setAutoCloseOff r => exact serve_sameBut (sameBut_sts s _) (by simp [touches]) h
  | setAutoCloseSecond r f n => exact serve_sameBut (setAutoCloseSecond_sameBut s _ _) (by simp [touches]) h
  | readBank r k a n => exact serve_read_sameBut (readBank_state s _ _ _) h
  | releaseBank r k => exact serve_sameBut (releaseBank_sameBut s _) (by simp [touches]) h
  | setTime r d n m => exact serve_sameBut (setTime_sameBut s _ _ _) (by simp [touches]) h
  | readTime r => exact serve_read_sameBut rfl h
  | takeNotices r => exact serve_sameBut (setPort_sameBut s _ _) (by simp [touches]) h
  | setNoticeMask r m => exact serve_sameBut (setNoticeMask_sameBut s _ _) (by simp [touches]) h
  | portStatus r n => exact serve_sameBut (portStatus_sameBut s _ _) (by simp [touches]) h
  | identify r => exact serve_read_sameBut rfl h

end Sys2Proof.Machine
end

section
/-! SUPPORT. The operations on circuits and records read through the accessors, the group that holds a circuit, and what a walk's winner is. -/

namespace Sys2Proof.Machine

/-! ### Circuits of a group -/

theorem groupHolds_iff (c : Nat) (r : Group) : groupHolds c r = true ↔ r.first ≤ c ∧ c < r.first + r.count := by
  simp [groupHolds]

theorem mem_circuitRange (c : Nat) (r : Group) : c ∈ circuitRange r.first r.count ↔ groupHolds c r = true := by
  rw [circuitRange, List.mem_range'_1, groupHolds_iff]

theorem circuitRange_nodup (first count : Nat) : (circuitRange first count).Nodup := List.nodup_range'

theorem held_iff (v : Circuit) : v.held = true ↔ v.state = .reserved ∨ v.state = .busy := by
  simp [Circuit.held]

/-- A circuit held is neither IDLE nor MAINT. -/
theorem held_eq_false_iff (v : Circuit) : v.held = false ↔ v.state = .idle ∨ v.state = .maint := by
  cases h : v.state <;> simp [Circuit.held, h]

theorem circuitAfterFreeing_held (marked : Bool) : (circuitAfterFreeing marked).held = false := by
  cases marked <;> rfl

/-- Whether group `g` is defined with circuit `c` in its range. -/
def State.Holds (s : State) (g c : Nat) : Prop := ∃ r, s.group g = some r ∧ groupHolds c r = true

theorem find?_unique {α : Type} {p : α → Bool} {l : List α} {a : α} (ha : a ∈ l) (hp : p a = true)
    (hu : ∀ b ∈ l, p b = true → b = a) : l.find? p = some a := by
  obtain ⟨b, hb⟩ := Option.isSome_iff_exists.1 (List.find?_isSome.2 ⟨a, ha, hp⟩)
  rw [hb, hu b (List.mem_of_find?_eq_some hb) (List.find?_some hb)]

/-- The group found for a circuit is one that holds it (R2). -/
theorem holds_of_groupOf {s : State} (ht : s.TablesInv) {c g : Nat} (h : s.groupOf c = some g) : s.Holds g c := by
  simp only [State.groupOf, Option.map_eq_some_iff] at h
  obtain ⟨⟨g', x⟩, hf, rfl⟩ := h
  have hp := List.find?_some hf
  obtain ⟨r, hr, hh⟩ := (Option.any_eq_true _ _).1 hp
  have hm := List.mem_of_find?_eq_some hf
  simp only at hr
  subst hr
  exact ⟨r, get_of_mem_of_wf _ _ ht.groups _ _ hm, hh⟩

/-- A circuit that no group holds has none found for it. -/
theorem groupOf_eq_none {s : State} (ht : s.TablesInv) {c : Nat}
    (h : ∀ g x, s.group g = some x → groupHolds c x = false) : s.groupOf c = none := by
  cases hg : s.groupOf c with
  | none => rfl
  | some g =>
    obtain ⟨r, hr, hh⟩ := holds_of_groupOf ht hg
    rw [h g r hr] at hh
    cases hh

/-- The one group that holds a circuit is the one found for it. -/
theorem groupOf_of_holds {s : State} (ht : s.TablesInv) (hp : s.PoolInv) {c g : Nat} {r : Group}
    (hg : s.group g = some r) (hh : groupHolds c r = true) : s.groupOf c = some g := by
  have hm := mem_of_get _ _ _ hg
  rw [State.groupOf, find?_unique hm (by simpa using hh)]
  · rfl
  · rintro ⟨g', x⟩ hm' hx
    obtain ⟨r', rfl, hh'⟩ := (Option.any_eq_true _ _).1 hx
    have hg' := get_of_mem_of_wf _ _ ht.groups _ _ hm'
    obtain rfl := hp.apart g' r' g r c hg' hg hh' hh
    rw [show some r' = some r from hg'.symm.trans hg]

/-! ### The hunt, the take and the holding of a circuit -/

section Circuits

variable (g c : Nat) (s : State)

/-- The group record with circuit `c` seized out of its free list (R17, R18). -/
def Group.seized (c : Nat) (r : Group) : Group := { r with freeList := r.freeList.erase c, busy := r.busy + 1 }

theorem inboundTake_group (g' : Nat) : (inboundTake g c s).group g' =
    if g' = g then (s.group g).map (Group.seized c) else s.group g' := by
  cases h : s.group g with
  | none => by_cases hg : g' = g <;> simp [inboundTake, h, hg]
  | some r => simp [inboundTake_some g c s r h, Group.seized]

theorem inboundTake_circuit (r : Group) (h : s.group g = some r) (c' : Nat) : (inboundTake g c s).circuit c' =
    if c' = c then { s.circuit c with state := .busy } else s.circuit c' := by
  simp [inboundTake_some g c s r h]

theorem outboundHunt_group (g' : Nat) : (outboundHunt g c s).group g' =
    if g' = g then (s.group g).map (fun r => { r with freeList := r.freeList.tail, busy := r.busy + 1 })
    else s.group g' := by
  cases h : s.group g with
  | none => by_cases hg : g' = g <;> simp [outboundHunt, h, hg]
  | some r => simp [outboundHunt_some g c s r h]

theorem outboundHunt_circuit (r : Group) (h : s.group g = some r) (c' : Nat) : (outboundHunt g c s).circuit c' =
    if c' = c then { s.circuit c with state := .reserved } else s.circuit c' := by
  simp [outboundHunt_some g c s r h]

@[simp] theorem outboundHunt_crt : (outboundHunt g c s).crt = s.crt :=
  (outboundHunt_sameBut s g c).crt.resolve_left (by decide)
@[simp] theorem inboundTake_crt : (inboundTake g c s).crt = s.crt :=
  (inboundTake_sameBut s g c).crt.resolve_left (by decide)
@[simp] theorem freeCircuit_crt : (freeCircuit g c s).crt = s.crt := (freeCircuit_frame g c s).1
@[simp] theorem holdCircuit_crt : (holdCircuit c s).crt = s.crt := rfl

@[simp] theorem outboundHunt_call (i : Nat) : (outboundHunt g c s).call i = s.call i := by simp [State.call]
@[simp] theorem inboundTake_call (i : Nat) : (inboundTake g c s).call i = s.call i := by simp [State.call]
@[simp] theorem freeCircuit_call (i : Nat) : (freeCircuit g c s).call i = s.call i := by simp [State.call]
@[simp] theorem holdCircuit_call (i : Nat) : (holdCircuit c s).call i = s.call i := rfl
@[simp] theorem holdCircuit_group (g' : Nat) : (holdCircuit c s).group g' = s.group g' := rfl

theorem holdCircuit_circuit (c' : Nat) : (holdCircuit c s).circuit c' =
    if c' = c then { s.circuit c with state := .busy } else s.circuit c' :=
  State.setCircuit_circuit _ _ _ _

@[simp] theorem makeRecord_cpl (i : Nat) (r : CallRecord) : (makeRecord i r s).cpl = s.cpl := rfl
@[simp] theorem makeRecord_group (i : Nat) (r : CallRecord) (g' : Nat) : (makeRecord i r s).group g' = s.group g' := rfl
@[simp] theorem makeRecord_circuit (i : Nat) (r : CallRecord) (c' : Nat) :
    (makeRecord i r s).circuit c' = s.circuit c' := rfl
@[simp] theorem makeRecord_gen (i : Nat) (r : CallRecord) (i' : Nat) : (makeRecord i r s).gen i' = s.gen i' := rfl

theorem makeRecord_call (i : Nat) (r : CallRecord) (i' : Nat) : (makeRecord i r s).call i' =
    if i' = i then some r else s.call i' :=
  State.setCall_call s i (some r) i'

@[simp] theorem freeRecord_group (i g' : Nat) : (freeRecord i s).group g' = s.group g' := rfl
@[simp] theorem freeRecord_circuit (i c' : Nat) : (freeRecord i s).circuit c' = s.circuit c' := rfl

end Circuits

/-! ### Ranges and carriers, which no operation on a circuit changes -/

/-- The range and the carrier of a group. -/
def State.rangeOf (s : State) (g : Nat) : Option (Nat × Nat × Nat) :=
  (s.group g).map fun r => (r.first, r.count, r.carrier)

theorem rangeOf_congr {s t : State} {g : Nat} (h : t.group g = s.group g) : t.rangeOf g = s.rangeOf g := by
  rw [State.rangeOf, State.rangeOf, h]

/-- A group rewritten within its range keeps it. -/
theorem rangeOf_of_map {s t : State} {g : Nat} {f : Group → Group} (h : t.group g = (s.group g).map f)
    (hf : ∀ r, (f r).first = r.first ∧ (f r).count = r.count ∧ (f r).carrier = r.carrier) :
    t.rangeOf g = s.rangeOf g := by
  rw [State.rangeOf, State.rangeOf, h, Option.map_map]
  congr 1
  funext r
  obtain ⟨h1, h2, h3⟩ := hf r
  simp [h1, h2, h3]

@[simp] theorem outboundHunt_rangeOf (g c : Nat) (s : State) (g' : Nat) :
    (outboundHunt g c s).rangeOf g' = s.rangeOf g' := by
  by_cases hg : g' = g
  · subst hg; exact rangeOf_of_map ((outboundHunt_group g' c s g').trans (if_pos rfl)) fun r => ⟨rfl, rfl, rfl⟩
  · exact rangeOf_congr ((outboundHunt_group g c s g').trans (if_neg hg))

@[simp] theorem inboundTake_rangeOf (g c : Nat) (s : State) (g' : Nat) :
    (inboundTake g c s).rangeOf g' = s.rangeOf g' := by
  by_cases hg : g' = g
  · subst hg; exact rangeOf_of_map ((inboundTake_group g' c s g').trans (if_pos rfl)) fun r => ⟨rfl, rfl, rfl⟩
  · exact rangeOf_congr ((inboundTake_group g c s g').trans (if_neg hg))

@[simp] theorem freeCircuit_rangeOf (g c : Nat) (s : State) (g' : Nat) :
    (freeCircuit g c s).rangeOf g' = s.rangeOf g' := by
  by_cases hg : g' = g
  · subst hg; exact rangeOf_of_map ((freeCircuit_group g' c s g').trans (if_pos rfl)) fun r => ⟨rfl, rfl, rfl⟩
  · exact rangeOf_congr ((freeCircuit_group g c s g').trans (if_neg hg))

@[simp] theorem holdCircuit_rangeOf (c : Nat) (s : State) (g' : Nat) :
    (holdCircuit c s).rangeOf g' = s.rangeOf g' := rfl

@[simp] theorem setCall_rangeOf (s : State) (i : Nat) (r : Option CallRecord) (g' : Nat) :
    (s.setCall i r).rangeOf g' = s.rangeOf g' := rfl

theorem holds_congr {s t : State} {g : Nat} (h : t.rangeOf g = s.rangeOf g) (c : Nat) : t.Holds g c ↔ s.Holds g c := by
  have key : ∀ u : State, u.Holds g c ↔ ∃ l, u.rangeOf g = some l ∧ l.1 ≤ c ∧ c < l.1 + l.2.1 := fun u => by
    constructor
    · rintro ⟨r, hr, hh⟩
      exact ⟨(r.first, r.count, r.carrier), by simp [State.rangeOf, hr], (groupHolds_iff c r).1 hh⟩
    · rintro ⟨l, hl, hh⟩
      simp only [State.rangeOf, Option.map_eq_some_iff] at hl
      obtain ⟨r, hr, rfl⟩ := hl
      exact ⟨r, hr, (groupHolds_iff c r).2 hh⟩
  rw [key, key, h]

theorem carrierOf_of_rangeOf {s t : State} {g : Nat} (h : t.rangeOf g = s.rangeOf g) : t.carrierOf g = s.carrierOf g := by
  have key : ∀ u : State, u.carrierOf g = ((u.rangeOf g).map fun l => l.2.2).getD 0 := fun u => by
    unfold State.carrierOf State.rangeOf
    cases u.group g <;> rfl
  rw [key, key, h]

theorem carrierOf_some {s : State} {g : Nat} {r : Group} (h : s.group g = some r) : s.carrierOf g = r.carrier := by
  simp only [State.carrierOf, h]

/-! ### The walk's winner -/

/-- What the walk does not skip: a defined group IN_SERVICE that takes outbound traffic, not the inbound group, of the exchange's own network or a confirmed carrier (R61). -/
theorem eligible_some {s : State} {inbound : Option Nat} {examined : List Nat} {c : Candidate} {r : Group}
    (h : eligible s inbound examined c = some r) :
    s.group c.group = some r ∧ r.state = .inService ∧ inbound ≠ some c.group
      ∧ (r.carrier = 0 ∨ s.isConfirmed r.carrier = true) := by
  unfold eligible at h
  split at h
  · cases h
  · rename_i x hx
    split at h
    · rename_i hc
      cases h
      exact ⟨hx, hc.2.1, hc.2.2.2.1, hc.2.2.2.2.1⟩
    · cases h

theorem admittedHead_some {s : State} {cls : CallClass} {c : Candidate} {r : Group} {head : Nat}
    (h : admittedHead s cls c r = some head) : r.freeList.head? = some head := by
  unfold admittedHead at h
  split at h
  · exact h
  · cases h

/-- What a walk that finds a group has found: an eligible group with the winning circuit at the head of its free list. -/
structure State.Wins (s : State) (inbound : Option Nat) (w : Winner) (x : Group) : Prop where
  group : s.group w.group = some x
  inService : x.state = .inService
  apart : inbound ≠ some w.group
  carrier : x.carrier = 0 ∨ s.isConfirmed x.carrier = true
  head : x.freeList.head? = some w.circuit

theorem walkFrom_wins (s : State) (cls : CallClass) (inbound : Option Nat) (l : List Candidate) (t : Tally)
    (records : Table CongestionRecord) (w : Winner) (h : (walkFrom s cls inbound l t records).1 = .ok w) :
    ∃ x, s.Wins inbound w x := by
  induction l generalizing t records with
  | nil => cases h
  | cons c rest ih =>
    rw [walkFrom] at h
    split at h
    · exact ih _ _ h
    · rename_i r he
      obtain ⟨hg, hs, ha, hc⟩ := eligible_some he
      split at h
      · rename_i head hh
        cases h
        exact ⟨r, hg, hs, ha, hc, admittedHead_some hh⟩
      · exact ih _ _ h

theorem selectRoute_wins {s s' : State} {d : Nat} {cls : CallClass} {inbound : Option Nat} {w : Winner}
    (h : selectRoute d cls inbound s = (.ok w, s')) : ∃ x, s.Wins inbound w x := by
  unfold selectRoute at h
  simp only at h
  split at h
  · cases h
  · split at h
    · cases h
    · exact walkFrom_wins s cls inbound _ _ _ w (congrArg Prod.fst h)

/-- What the walk leaves of the state: everything but its counts. -/
theorem selectRoute_state {s s' : State} {d : Nat} {cls : CallClass} {inbound : Option Nat} {e : Except Reason Winner}
    (h : selectRoute d cls inbound s = (e, s')) : ∃ records, s' = { s with cmn := { s.cmn with records := records } } := by
  obtain ⟨records, hr⟩ := selectRoute_frame d cls inbound s
  rw [h] at hr
  exact ⟨records, hr⟩

/-- A confirmed carrier has an agreed slot (R101). -/
theorem agreedSlot_of_isConfirmed {s : State} {n : Nat} (h : s.isConfirmed n = true) :
    agreedSlot (s.agreement n).state ≠ none := by
  unfold State.isConfirmed at h
  split at h <;> rename_i he <;> simp_all [agreedSlot]

end Sys2Proof.Machine
end

section
/-! SUPPORT. The agreement of the circuit pool and the call records while a command works on it: the circuits that it has in hand are held by no record. One rule for each of the three moves that a command makes: a record is lifted, one circuit changes, a record is placed. -/

namespace Sys2Proof.Machine

/-- `State.PoolInv`, but for the circuits `L` in hand, which are held and belong to no live record. -/
structure State.PoolHand (s : State) (L : List Nat) : Prop where
  groups : ∀ g r, s.group g = some r → s.GroupInv r
  apart : ∀ g r g' r' c, s.group g = some r → s.group g' = some r' → groupHolds c r = true →
    groupHolds c r' = true → g = g'
  assigned : ∀ c, s.circuit c ≠ Circuit.idle → ∃ g, s.Holds g c
  marks : ∀ c, (s.circuit c).mark = true → (s.circuit c).held = true
  calls : ∀ i r, s.call i = some r → s.CallInv r
  held : ∀ c, (s.circuit c).held = true → c ∈ L ∨ ∃ i r, s.call i = some r ∧ c ∈ r.circuits
  once : ∀ i r j r' c, s.call i = some r → s.call j = some r' → c ∈ r.circuits → c ∈ r'.circuits → i = j
  hand : ∀ c ∈ L, (s.circuit c).held = true ∧ ∀ i r, s.call i = some r → c ∉ r.circuits

/-- With nothing in hand the pool and the records agree. -/
theorem poolHand_nil_iff (s : State) : s.PoolHand [] ↔ s.PoolInv := by
  constructor
  · intro h
    exact ⟨h.groups, h.apart, h.assigned, h.marks, h.calls,
      fun c hc => (h.held c hc).resolve_left (by simp), h.once⟩
  · intro h
    exact ⟨h.groups, h.apart, h.assigned, h.marks, h.calls,
      fun c hc => .inr (h.held c hc), h.once, by simp⟩

theorem CallRecord.mem_circuits (c : Nat) (r : CallRecord) :
    c ∈ r.circuits ↔ (∃ o, r.outbound = some o ∧ o.circuit = c) ∨ ∃ b, r.inbound = some b ∧ b.circuit = c := by
  simp [CallRecord.circuits]

/-- The circuits of a live record are held (R2). -/
theorem State.CallInv.held {s : State} {r : CallRecord} (h : s.CallInv r) {c : Nat} (hc : c ∈ r.circuits) :
    (s.circuit c).held = true := by
  rw [held_iff]
  rcases (r.mem_circuits c).1 hc with ⟨o, ho, rfl⟩ | ⟨b, hb, rfl⟩
  · have := (h.outbound o ho).2.1
    split at this
    · exact .inl this
    · exact .inr this
  · exact .inr (h.inbound b hb).2.1

/-- A record stands against the pool as it did where ranges, carriers and the states of its circuits are the same. -/
theorem State.CallInv.congr {s t : State} {r : CallRecord} (h : s.CallInv r)
    (hr : ∀ g, t.rangeOf g = s.rangeOf g) (hc : ∀ c ∈ r.circuits, (t.circuit c).state = (s.circuit c).state) :
    t.CallInv r := by
  refine ⟨h.shape, h.circuits_nodup, fun o ho => ?_, fun b hb => ?_⟩
  · obtain ⟨h1, h2, h3⟩ := h.outbound o ho
    have ho' : o.circuit ∈ r.circuits := (r.mem_circuits _).2 (.inl ⟨o, ho, rfl⟩)
    exact ⟨(holds_congr (hr _) _).2 h1, (hc _ ho').trans h2, by rw [h3, carrierOf_of_rangeOf (hr _)]⟩
  · obtain ⟨h1, h2, h3⟩ := h.inbound b hb
    have hb' : b.circuit ∈ r.circuits := (r.mem_circuits _).2 (.inr ⟨b, hb, rfl⟩)
    exact ⟨(holds_congr (hr _) _).2 h1, (hc _ hb').trans h2, by rw [h3, carrierOf_of_rangeOf (hr _)]⟩

theorem State.GroupInv.congr {s t : State} {r : Group} (h : s.GroupInv r)
    (hc : ∀ c, groupHolds c r = true → t.circuit c = s.circuit c) : t.GroupInv r := by
  refine ⟨h.range, h.free_nodup, fun c => ?_, ?_, h.blocked, h.draining⟩
  · rw [h.free c]
    exact and_congr_right fun hh => by rw [hc c hh]
  · rw [h.busy]
    exact List.countP_congr fun c hm => by rw [hc c ((mem_circuitRange c r).1 hm)]

/-- Two states whose groups, circuits and records read alike agree alike. -/
theorem State.PoolHand.congr {s t : State} {L : List Nat} (h : s.PoolHand L) (hg : ∀ g, t.group g = s.group g)
    (hc : ∀ c, t.circuit c = s.circuit c) (hi : ∀ i, t.call i = s.call i) : t.PoolHand L := by
  refine ⟨fun g r hr => ?_, fun g r g' r' c hr hr' => ?_, fun c hn => ?_, fun c => ?_, fun i r hr => ?_,
    fun c => ?_, fun i r j r' c hr hr' => ?_, fun c hl => ?_⟩
  · exact (h.groups g r (hg g ▸ hr)).congr fun c _ => hc c
  · exact h.apart g r g' r' c (hg g ▸ hr) (hg g' ▸ hr')
  · rw [hc] at hn
    exact (h.assigned c hn).imp fun g hh => (holds_congr (rangeOf_congr (hg g)) c).2 hh
  · rw [hc]; exact h.marks c
  · exact (h.calls i r (hi i ▸ hr)).congr (fun g => rangeOf_congr (hg g)) fun c _ => by rw [hc]
  · rw [hc]
    simp only [hi]
    exact h.held c
  · exact h.once i r j r' c (hi i ▸ hr) (hi j ▸ hr')
  · rw [hc]
    simp only [hi]
    exact h.hand c hl

theorem State.PoolInv.congr {s t : State} (h : s.PoolInv) (hg : ∀ g, t.group g = s.group g)
    (hc : ∀ c, t.circuit c = s.circuit c) (hi : ∀ i, t.call i = s.call i) : t.PoolInv :=
  (poolHand_nil_iff t).1 (((poolHand_nil_iff s).2 h).congr hg hc hi)

/-! ### One circuit changes -/

/-- A change at one place of a list without repeats changes a count by that place alone. -/
theorem countP_change {l : List Nat} (hl : l.Nodup) {c : Nat} (hc : c ∈ l) (p q : Nat → Bool)
    (h : ∀ x, x ≠ c → q x = p x) :
    l.countP q + (if p c then 1 else 0) = l.countP p + (if q c then 1 else 0) := by
  have hperm := List.perm_cons_erase hc
  have hrest : (l.erase c).countP q = (l.erase c).countP p :=
    List.countP_congr fun x hx => by rw [h x fun hxc => by rw [hxc, hl.mem_erase_iff] at hx; exact hx.1 rfl]
  rw [hperm.countP_eq q, hperm.countP_eq p, List.countP_cons, List.countP_cons, hrest]
  omega

/-- State `t` is `s` with circuit `c`, of group `g` with record `r`, at `v`, and the record at `r'`. -/
structure State.Moves (s t : State) (g c : Nat) (r r' : Group) (v : Circuit) : Prop where
  group : s.group g = some r
  holds : groupHolds c r = true
  groups : ∀ g', t.group g' = if g' = g then some r' else s.group g'
  circuits : ∀ c', t.circuit c' = if c' = c then v else s.circuit c'
  calls : ∀ i, t.call i = s.call i

/-- What a move of circuit `c` must keep to: the record's fields but those that follow the circuit, and the free list, the busy count and the state in step with it. -/
structure Group.Follows (r : Group) (old : Circuit) (c : Nat) (v : Circuit) (r' : Group) : Prop where
  first : r'.first = r.first
  count : r'.count = r.count
  carrier : r'.carrier = r.carrier
  reserve : r.reserve ≤ r.count → r'.reserve ≤ r'.count
  profile : r'.profile = r.profile
  free_nodup : r'.freeList.Nodup
  free : ∀ x, x ∈ r'.freeList ↔ if x = c then v.state = .idle else x ∈ r.freeList
  busy : r'.busy + (if old.held then 1 else 0) = r.busy + if v.held then 1 else 0
  blocked : r'.state = .blocked → r'.busy = 0
  draining : r'.state = .draining → 0 < r'.busy

section Moves

variable {s t : State} {g c : Nat} {r r' : Group} {v : Circuit} {L L' : List Nat}

theorem State.Moves.rangeOf (m : s.Moves t g c r r' v) (f : r.Follows (s.circuit c) c v r') (g' : Nat) :
    t.rangeOf g' = s.rangeOf g' := by
  by_cases hg : g' = g
  · subst hg
    simp [State.rangeOf, m.groups, m.group, f.first, f.count, f.carrier]
  · exact rangeOf_congr ((m.groups g').trans (if_neg hg))

theorem Group.Follows.groupHolds (f : r.Follows (s.circuit c) c v r') (x : Nat) :
    groupHolds x r' = groupHolds x r := by
  simp only [Machine.groupHolds, f.first, f.count]

/-- The group of the circuit that changes keeps to its rules. -/
theorem State.Moves.groupInv (m : s.Moves t g c r r' v) (f : r.Follows (s.circuit c) c v r') (h : s.GroupInv r) :
    t.GroupInv r' := by
  refine ⟨⟨?_, ?_, ?_, ?_, ?_⟩, f.free_nodup, fun x => ?_, ?_, f.blocked, f.draining⟩
  · rw [f.count]; exact h.range.count
  · rw [f.first, f.count]; exact h.range.last
  · rw [f.carrier]; exact h.range.carrier
  · exact f.reserve h.range.reserve
  · rw [f.profile]; exact h.range.profile
  · rw [f.free, f.groupHolds, m.circuits]
    by_cases hx : x = c
    · subst hx; simp [m.holds]
    · simp only [if_neg hx]; exact h.free x
  · have key := countP_change (circuitRange_nodup r.first r.count) ((mem_circuitRange c r).2 m.holds)
      (fun x => (s.circuit x).held) (fun x => (t.circuit x).held) fun x hx => by rw [m.circuits, if_neg hx]
    have hb := f.busy
    simp only [m.circuits c, if_true, ← h.busy] at key
    rw [f.first, f.count]
    omega

/-- One circuit changes, its group in step with it, and the circuits in hand as it becomes held or free. A record that holds the circuit must find it in the same state. -/
theorem State.PoolHand.move (h : s.PoolHand L) (m : s.Moves t g c r r' v) (f : r.Follows (s.circuit c) c v r')
    (hmark : v.mark = true → v.held = true)
    (hsame : ∀ i x, s.call i = some x → c ∈ x.circuits → v.state = (s.circuit c).state)
    (hL : ∀ x, x ∈ L' ↔ if x = c then v.held = true ∧ ∀ i y, s.call i = some y → c ∉ y.circuits else x ∈ L) :
    t.PoolHand L' := by
  have hrange := m.rangeOf f
  have other : ∀ c', c' ≠ c → t.circuit c' = s.circuit c' := fun c' hc => (m.circuits c').trans (if_neg hc)
  have hat : t.circuit c = v := (m.circuits c).trans (if_pos rfl)
  refine ⟨fun g' x hx => ?_, fun g1 x1 g2 x2 c' h1 h2 hh1 hh2 => ?_, fun c' hn => ?_, fun c' hm => ?_,
    fun i x hx => ?_, fun c' hh => ?_, fun i x j y c' hi hj => ?_, fun c' hl => ?_⟩
  · rw [m.groups] at hx
    split at hx
    · cases hx
      exact m.groupInv f (h.groups g r m.group)
    · rename_i hg
      refine (h.groups g' x hx).congr fun c' hh => other c' ?_
      rintro rfl
      exact hg (h.apart g' x g r c' hx m.group hh m.holds)
  · obtain ⟨y1, hy1, hhy1⟩ := (holds_congr (hrange g1) c').1 ⟨x1, h1, hh1⟩
    obtain ⟨y2, hy2, hhy2⟩ := (holds_congr (hrange g2) c').1 ⟨x2, h2, hh2⟩
    exact h.apart g1 y1 g2 y2 c' hy1 hy2 hhy1 hhy2
  · by_cases hc : c' = c
    · subst hc
      exact ⟨g, (holds_congr (hrange g) _).2 ⟨r, m.group, m.holds⟩⟩
    · rw [other c' hc] at hn
      exact (h.assigned c' hn).imp fun g' hh => (holds_congr (hrange g') c').2 hh
  · by_cases hc : c' = c
    · subst hc; rw [hat] at hm ⊢; exact hmark hm
    · rw [other c' hc] at hm ⊢; exact h.marks c' hm
  · rw [m.calls] at hx
    refine (h.calls i x hx).congr hrange fun c' hc' => ?_
    by_cases hc : c' = c
    · subst hc; rw [hat]; exact hsame i x hx hc'
    · rw [other c' hc]
  · simp only [m.calls]
    by_cases hc : c' = c
    · subst hc
      rw [hat] at hh
      by_cases hr : ∃ i y, s.call i = some y ∧ c' ∈ y.circuits
      · exact .inr hr
      · push Not at hr
        exact .inl ((hL c').2 (by rw [if_pos rfl]; exact ⟨hh, hr⟩))
    · rw [other c' hc] at hh
      exact (h.held c' hh).imp (fun hl => (hL c').2 (by rwa [if_neg hc])) id
  · rw [m.calls] at hi hj
    exact h.once i x j y c' hi hj
  · simp only [m.calls]
    have := (hL c').1 hl
    by_cases hc : c' = c
    · subst hc
      rw [if_pos rfl] at this
      rw [hat]
      exact this
    · rw [if_neg hc] at this
      rw [other c' hc]
      exact h.hand c' this

end Moves

/-! ### Seizing, freeing and holding a circuit -/

section Circuits

variable {s : State} {g c : Nat} {r : Group} {L : List Nat}

/-- No live record holds a circuit that is not held. -/
theorem State.PoolHand.not_mem_of_not_held (h : s.PoolHand L) (hc : (s.circuit c).held = false) {i : Nat}
    {x : CallRecord} (hi : s.call i = some x) : c ∉ x.circuits := fun hm => by
  rw [(h.calls i x hi).held hm] at hc
  cases hc

theorem State.PoolHand.not_mem_hand (h : s.PoolHand L) (hc : (s.circuit c).held = false) : c ∉ L := fun hm => by
  rw [(h.hand c hm).1] at hc
  cases hc

/-- An IDLE circuit of a group that is not BLOCKED is seized (R17, R18): it comes to hand. -/
theorem State.PoolHand.seize {t : State} (h : s.PoolHand L) {st : CircuitState} (hst : st = .reserved ∨ st = .busy)
    (hi : (s.circuit c).state = .idle) (hb : r.state ≠ .blocked)
    (m : s.Moves t g c r (r.seized c) { s.circuit c with state := st }) : t.PoolHand (c :: L) := by
  have hv : ({ s.circuit c with state := st } : Circuit).held = true := (held_iff _).2 hst
  have hold : (s.circuit c).held = false := (held_eq_false_iff _).2 (.inl hi)
  have hr := h.groups g r m.group
  have hfollows : r.Follows (s.circuit c) c { s.circuit c with state := st } (r.seized c) := by
    refine ⟨rfl, rfl, rfl, id, rfl, hr.free_nodup.erase c, fun x => ?_, ?_, fun hs => absurd hs hb, fun _ => ?_⟩
    · show x ∈ r.freeList.erase c ↔ _
      rw [hr.free_nodup.mem_erase_iff]
      by_cases hx : x = c
      · subst hx; rcases hst with rfl | rfl <;> simp
      · simp [hx]
    · rw [hv, hold]; rfl
    · exact Nat.succ_pos _
  refine h.move m hfollows (fun _ => hv) (fun i x hx hc => absurd hc (h.not_mem_of_not_held hold hx)) fun x => ?_
  by_cases hx : x = c
  · subst hx
    simpa [hv] using fun i y hy => h.not_mem_of_not_held hold hy
  · simp [hx]

theorem State.PoolHand.inboundTake (h : s.PoolHand L) (hg : s.group g = some r) (hh : groupHolds c r = true)
    (hi : (s.circuit c).state = .idle) (hb : r.state ≠ .blocked) : (inboundTake g c s).PoolHand (c :: L) :=
  h.seize (.inr rfl) hi hb ⟨hg, hh, fun g' => by rw [inboundTake_group, hg]; rfl,
    fun c' => inboundTake_circuit g c s r hg c', fun i => inboundTake_call g c s i⟩

/-- The head of a group's free list is an IDLE circuit of the group. -/
theorem State.PoolHand.of_head (h : s.PoolHand L) (hg : s.group g = some r) (hc : r.freeList.head? = some c) :
    groupHolds c r = true ∧ (s.circuit c).state = .idle :=
  ((h.groups g r hg).free c).1 (List.mem_of_mem_head? hc)

theorem State.PoolHand.outboundHunt (h : s.PoolHand L) (hg : s.group g = some r)
    (hc : r.freeList.head? = some c) (hb : r.state ≠ .blocked) : (outboundHunt g c s).PoolHand (c :: L) := by
  obtain ⟨hh, hi⟩ := h.of_head hg hc
  obtain ⟨l, hl⟩ : ∃ l, r.freeList = c :: l := by
    cases hf : r.freeList with
    | nil => simp [hf] at hc
    | cons a l => exact ⟨l, by simpa [hf] using hc⟩
  refine h.seize (.inl rfl) hi hb ⟨hg, hh, fun g' => ?_, fun c' => outboundHunt_circuit g c s r hg c',
    fun i => outboundHunt_call g c s i⟩
  rw [outboundHunt_group, hg]
  simp [Group.seized, hl]

/-- A circuit in hand is freed (R20). -/
theorem State.PoolHand.freeCircuit (h : s.PoolHand (c :: L)) (hl : c ∉ L) (hg : s.group g = some r)
    (hh : groupHolds c r = true) : (freeCircuit g c s).PoolHand L := by
  have hv := circuitAfterFreeing_held (s.circuit c).mark
  have hr := h.groups g r hg
  have hheld := (h.hand c (by simp)).1
  have hfree : c ∉ r.freeList := fun hm => by
    have := ((hr.free c).1 hm).2
    rw [(held_eq_false_iff _).2 (.inl this)] at hheld
    cases hheld
  have hpos : 0 < r.busy := by
    rw [hr.busy, List.countP_pos_iff]
    exact ⟨c, (mem_circuitRange c r).2 hh, hheld⟩
  have hfollows : r.Follows (s.circuit c) c (circuitAfterFreeing (s.circuit c).mark)
      (groupAfterFreeing c (s.circuit c).mark r) := by
    refine ⟨rfl, rfl, rfl, id, rfl, ?_, fun x => ?_, ?_, fun hs => ?_, fun hs => ?_⟩
    · cases hm : (s.circuit c).mark
      · simpa [groupAfterFreeing, hm] using List.nodup_append_comm.1
          (by simpa using ⟨hfree, hr.free_nodup⟩ : ([c] ++ r.freeList).Nodup)
      · simpa [groupAfterFreeing, hm] using hr.free_nodup
    · by_cases hx : x = c
      · subst hx
        cases hm : (s.circuit x).mark <;> simp [groupAfterFreeing, circuitAfterFreeing, hfree, Circuit.idle]
      · cases hm : (s.circuit c).mark <;> simp [groupAfterFreeing, hx]
    · rw [hv, hheld]
      show r.busy - 1 + 1 = r.busy + 0
      omega
    · simp only [groupAfterFreeing] at hs ⊢
      split at hs
      · omega
      · have := hr.blocked hs; omega
    · simp only [groupAfterFreeing] at hs ⊢
      split at hs
      · cases hs
      · rename_i hn
        have : ¬ r.busy - 1 = 0 := fun hz => hn ⟨hs, hz⟩
        omega
  refine h.move ⟨hg, hh, fun g' => by rw [freeCircuit_group, hg]; rfl, fun c' => freeCircuit_circuit g c s c',
    fun i => freeCircuit_call g c s i⟩ hfollows (fun hm => ?_)
    (fun i x hx hc => absurd hc ((h.hand c (by simp)).2 i x hx)) fun x => ?_
  · revert hm; cases (s.circuit c).mark <;> simp [circuitAfterFreeing, Circuit.idle]
  · by_cases hx : x = c
    · subst hx; simp [hv, hl]
    · simp [hx]

/-- A circuit in hand becomes BUSY (R19). -/
theorem State.PoolHand.holdCircuit (h : s.PoolHand L) (hl : c ∈ L) (hg : s.group g = some r)
    (hh : groupHolds c r = true) : (holdCircuit c s).PoolHand L := by
  have hv : ({ s.circuit c with state := .busy } : Circuit).held = true := rfl
  obtain ⟨hheld, hnone⟩ := h.hand c hl
  have hr := h.groups g r hg
  have hfree : c ∉ r.freeList := fun hm => by
    have := ((hr.free c).1 hm).2
    rw [(held_eq_false_iff _).2 (.inl this)] at hheld
    cases hheld
  have hfollows : r.Follows (s.circuit c) c { s.circuit c with state := .busy } r := by
    refine ⟨rfl, rfl, rfl, id, rfl, hr.free_nodup, fun x => ?_, by rw [hv, hheld], hr.blocked, hr.draining⟩
    by_cases hx : x = c
    · subst hx; simp [hfree]
    · simp [hx]
  refine h.move ⟨hg, hh, fun g' => ?_, fun c' => holdCircuit_circuit c s c', fun i => rfl⟩ hfollows (fun _ => hv)
    (fun i x hx hc => absurd hc (hnone i x hx)) fun x => ?_
  · by_cases hgg : g' = g
    · subst hgg; simp [hg]
    · simp [hgg]
  · by_cases hx : x = c
    · subst hx; simpa [hv, hl] using hnone
    · simp [hx]

end Circuits

/-! ### Records -/

section Records

variable {s : State} {i : Nat} {r : CallRecord} {L L' : List Nat}

/-- A record is lifted from the table: its circuits come to hand. -/
theorem State.PoolHand.lift (h : s.PoolHand L) (hi : s.call i = some r) : (s.setCall i none).PoolHand (r.circuits ++ L) := by
  have hcall : ∀ j x, (s.setCall i none).call j = some x → s.call j = some x ∧ j ≠ i := fun j x hj => by
    rw [State.setCall_call] at hj
    split at hj
    · cases hj
    · exact ⟨hj, by assumption⟩
  refine ⟨fun g x hx => (h.groups g x hx).congr fun _ _ => rfl, h.apart, h.assigned, h.marks,
    fun j x hj => (h.calls j x (hcall j x hj).1).congr (fun _ => rfl) fun _ _ => rfl, fun c hc => ?_,
    fun j x k y c hj hk => h.once j x k y c (hcall j x hj).1 (hcall k y hk).1, fun c hc => ?_⟩
  · rcases h.held c hc with hl | ⟨j, x, hj, hm⟩
    · exact .inl (by simp [hl])
    · by_cases hji : j = i
      · subst hji
        obtain rfl := Option.some.inj (hi.symm.trans hj)
        exact .inl (by simp [hm])
      · exact .inr ⟨j, x, by simp [hji, hj], hm⟩
  · rcases List.mem_append.1 hc with hm | hl
    · refine ⟨(h.calls i r hi).held hm, fun j x hj hx => ?_⟩
      obtain ⟨hj', hne⟩ := hcall j x hj
      exact hne (h.once j x i r c hj' hi hx hm)
    · exact ⟨(h.hand c hl).1, fun j x hj => (h.hand c hl).2 j x (hcall j x hj).1⟩

/-- A record is placed in the table: its circuits leave the hand. -/
theorem State.PoolHand.place (h : s.PoolHand L) (hi : s.call i = none) (hr : s.CallInv r)
    (hL : ∀ c, c ∈ L ↔ c ∈ r.circuits ∨ c ∈ L') (hd : ∀ c ∈ L', c ∉ r.circuits) :
    (s.setCall i (some r)).PoolHand L' := by
  have hcall : ∀ j x, (s.setCall i (some r)).call j = some x → (j = i ∧ x = r) ∨ (s.call j = some x ∧ j ≠ i) :=
    fun j x hj => by
      rw [State.setCall_call] at hj
      split at hj
      · exact .inl ⟨by assumption, (Option.some.inj hj).symm⟩
      · exact .inr ⟨hj, by assumption⟩
  have hfresh : ∀ j x c, s.call j = some x → c ∈ r.circuits → c ∉ x.circuits := fun j x c hj hm =>
    (h.hand c ((hL c).2 (.inl hm))).2 j x hj
  refine ⟨fun g x hx => (h.groups g x hx).congr fun _ _ => rfl, h.apart, h.assigned, h.marks,
    fun j x hj => ?_, fun c hc => ?_, fun j x k y c hj hk hx hy => ?_, fun c hc => ?_⟩
  · rcases hcall j x hj with ⟨-, rfl⟩ | ⟨hj', -⟩
    · exact hr.congr (fun _ => rfl) fun _ _ => rfl
    · exact (h.calls j x hj').congr (fun _ => rfl) fun _ _ => rfl
  · rcases h.held c hc with hl | ⟨j, x, hj, hm⟩
    · rcases (hL c).1 hl with hm | hl
      · exact .inr ⟨i, r, by simp, hm⟩
      · exact .inl hl
    · have hne : j ≠ i := fun he => by rw [he, hi] at hj; cases hj
      exact .inr ⟨j, x, by simp [hne, hj], hm⟩
  · rcases hcall j x hj with ⟨rfl, rfl⟩ | ⟨hj', -⟩ <;> rcases hcall k y hk with ⟨rfl, rfl⟩ | ⟨hk', -⟩
    · rfl
    · exact absurd hy (hfresh k y c hk' hx)
    · exact absurd hx (hfresh j x c hj' hy)
    · exact h.once j x k y c hj' hk' hx hy
  · refine ⟨(h.hand c ((hL c).2 (.inr hc))).1, fun j x hj => ?_⟩
    rcases hcall j x hj with ⟨-, rfl⟩ | ⟨hj', -⟩
    · exact hd c hc
    · exact (h.hand c ((hL c).2 (.inr hc))).2 j x hj'

/-- The last record is placed, and the pool and the records agree again. -/
theorem State.PoolHand.place_all (h : s.PoolHand L) (hi : s.call i = none) (hr : s.CallInv r)
    (hL : ∀ c, c ∈ L ↔ c ∈ r.circuits) : (s.setCall i (some r)).PoolInv :=
  (poolHand_nil_iff _).1 (h.place hi hr (by simpa using hL) (by simp))

end Records

end Sys2Proof.Machine
end

section
/-! SUPPORT. Each command that works on the circuit pool or the call records keeps them in agreement. -/

namespace Sys2Proof.Machine

/-! ### A table whose entries are changed and cleared -/

/-- Dropping the entries equal to the default changes no reading of a table in canonical form. -/
theorem Table.get_filter_ne {α : Type} [DecidableEq α] (d : α) (t : Table α) (h : t.Pairwise fun a b => a.1 < b.1)
    (k : Nat) : Table.get d (t.filter fun e => decide (e.2 ≠ d)) k = Table.get d t k := by
  induction t with
  | nil => rfl
  | cons e t ih =>
    obtain ⟨j, v⟩ := e
    rw [List.pairwise_cons] at h
    rw [List.filter_cons, Table.get_cons]
    by_cases hv : v = d
    · subst hv
      simp only [ne_eq, not_true, decide_false, Bool.false_eq_true, if_false]
      rw [ih h.2]
      split
      · rename_i hj
        subst hj
        exact Table.get_eq_default _ _ _ fun e he => by have := h.1 e he; simp only at this; omega
      · rfl
    · simp only [ne_eq, hv, not_false_eq_true, decide_true, if_true]
      rw [Table.get_cons, ih h.2]

/-! ### Records -/

/-- The pool and the records agree when every record is replaced by one that holds the same circuits in the same way. -/
theorem State.PoolInv.mapCalls {s t : State} (h : s.PoolInv) (f : CallRecord → CallRecord)
    (hg : ∀ g, t.group g = s.group g) (hc : ∀ c, t.circuit c = s.circuit c)
    (hi : ∀ i, t.call i = (s.call i).map f) (hf : ∀ r, (f r).circuits = r.circuits)
    (hinv : ∀ r, s.CallInv r → s.CallInv (f r)) : t.PoolInv := by
  have back : ∀ i r, t.call i = some r → ∃ r', s.call i = some r' ∧ f r' = r := fun i r hr => by
    rwa [hi, Option.map_eq_some_iff] at hr
  refine ⟨fun g r hr => (h.groups g r (hg g ▸ hr)).congr fun c _ => hc c,
    fun g r g' r' c hr hr' => h.apart g r g' r' c (hg g ▸ hr) (hg g' ▸ hr'), fun c hn => ?_, fun c => ?_,
    fun i r hr => ?_, fun c hh => ?_, fun i r j r' c hr hr' hm hm' => ?_⟩
  · rw [hc] at hn
    simp only [hg]
    exact h.assigned c hn
  · rw [hc]; exact h.marks c
  · obtain ⟨r', hr', rfl⟩ := back i r hr
    exact (hinv r' (h.calls i r' hr')).congr (fun g => rangeOf_congr (hg g)) fun c _ => by rw [hc]
  · rw [hc] at hh
    obtain ⟨i, r, hr, hm⟩ := h.held c hh
    exact ⟨i, f r, by rw [hi, hr]; rfl, by rwa [hf]⟩
  · obtain ⟨x, hx, rfl⟩ := back i r hr
    obtain ⟨y, hy, rfl⟩ := back j r' hr'
    rw [hf] at hm hm'
    exact h.once i x j y c hx hy hm hm'

theorem freeCircuit_setCall (g c : Nat) (s : State) (i : Nat) (x : Option CallRecord) :
    freeCircuit g c (s.setCall i x) = (freeCircuit g c s).setCall i x := by
  simp only [freeCircuit, State.setCall_group, State.setCall_circuit]
  split
  · rfl
  · split <;> rfl

theorem outboundHunt_setCall (g c : Nat) (s : State) (i : Nat) (x : Option CallRecord) :
    outboundHunt g c (s.setCall i x) = (outboundHunt g c s).setCall i x := by
  simp only [outboundHunt, State.setCall_group, State.setCall_circuit]
  split <;> rfl

theorem freeOutbound_setCall (r : CallRecord) (s : State) (i : Nat) (x : Option CallRecord) :
    freeOutbound r (s.setCall i x) = (freeOutbound r s).setCall i x := by
  unfold freeOutbound
  split
  · exact freeCircuit_setCall _ _ _ _ _
  · rfl

theorem freeInbound_setCall (r : CallRecord) (s : State) (i : Nat) (x : Option CallRecord) :
    freeInbound r (s.setCall i x) = (freeInbound r s).setCall i x := by
  unfold freeInbound
  split
  · exact freeCircuit_setCall _ _ _ _ _
  · rfl

theorem setCall_setCall_call (s : State) (i : Nat) (x y : Option CallRecord) (j : Nat) :
    ((s.setCall i x).setCall i y).call j = (s.setCall i y).call j := by
  simp only [State.setCall_call]
  split <;> rfl

section Calls

variable {s : State} {i : Nat} {r : CallRecord}

/-- The circuits of a record outside the table are freed, outbound first (R20). -/
theorem State.PoolHand.freeSides (h : s.PoolHand r.circuits) (hn : r.circuits.Nodup)
    (ho : ∀ o, r.outbound = some o → s.Holds o.group o.circuit)
    (hb : ∀ b, r.inbound = some b → s.Holds b.group b.circuit) : (freeInbound r (freeOutbound r s)).PoolInv := by
  have hout : (freeOutbound r s).PoolHand (r.inbound.toList.map fun b => b.circuit) := by
    cases hr : r.outbound with
    | none => simpa [freeOutbound, hr, CallRecord.circuits] using h
    | some o =>
      obtain ⟨x, hx, hh⟩ := ho o hr
      simp only [CallRecord.circuits, hr, Option.toList_some, List.map_cons, List.map_nil, List.singleton_append,
        List.nodup_cons] at h hn
      simpa only [freeOutbound, hr] using h.freeCircuit hn.1 hx hh
  cases hr : r.inbound with
  | none => exact (poolHand_nil_iff _).1 (by simpa [freeInbound, hr] using hout)
  | some b =>
    have hrange : (freeOutbound r s).rangeOf b.group = s.rangeOf b.group := by
      unfold freeOutbound
      split
      · exact freeCircuit_rangeOf _ _ _ _
      · rfl
    obtain ⟨x, hx, hh⟩ := (holds_congr hrange b.circuit).2 (hb b hr)
    rw [hr] at hout
    refine (poolHand_nil_iff _).1 ?_
    simpa only [freeInbound, hr] using State.PoolHand.freeCircuit (L := []) hout (by simp) hx hh

/-- A live record is freed with its circuits (R20, R25). -/
theorem freeCall_poolInv (h : s.PoolInv) (hi : s.call i = some r) : (freeCall i r s).PoolInv := by
  have hr := h.calls i r hi
  have hlift := ((poolHand_nil_iff s).2 h).lift hi
  rw [List.append_nil] at hlift
  have hfreed := hlift.freeSides hr.circuits_nodup (fun o ho => (hr.outbound o ho).1) fun b hb => (hr.inbound b hb).1
  rw [freeOutbound_setCall, freeInbound_setCall] at hfreed
  exact hfreed.congr (fun _ => rfl) (fun _ => rfl) fun _ => rfl

/-- A live record is rewritten without a change of its circuits. -/
theorem setCall_poolInv {r' : CallRecord} (h : s.PoolInv) (hi : s.call i = some r) (hc : r'.circuits = r.circuits)
    (hinv : s.CallInv r') : (s.setCall i (some r')).PoolInv := by
  have hlift := ((poolHand_nil_iff s).2 h).lift hi
  rw [List.append_nil] at hlift
  exact (hlift.place_all (r := r') (by simp) (hinv.congr (fun _ => rfl) fun _ _ => rfl) (by simp [hc])).congr
    (fun _ => rfl) (fun _ => rfl) fun j => (setCall_setCall_call s i none (some r') j).symm

/-- What a handle that passes its checks names. -/
theorem findCall_ok {index gen : Nat} (h : findCall s index gen = .ok r) :
    index < Config.callRecords ∧ s.call index = some r ∧ s.gen index = gen := by
  unfold findCall at h
  split at h
  · cases h
  split at h
  · cases h
  split at h
  · cases h
    exact ⟨by omega, by assumption, by assumption⟩
  · cases h

theorem findOwnCall_ok {p : PortId} {index gen : Nat} (h : findOwnCall s p index gen = .ok r) :
    index < Config.callRecords ∧ s.call index = some r ∧ s.gen index = gen ∧ r.owner = p := by
  unfold findOwnCall at h
  split at h
  · cases h
  · rename_i x hx
    split at h
    · cases h
      obtain ⟨h1, h2, h3⟩ := findCall_ok hx
      exact ⟨h1, h2, h3, by assumption⟩
    · cases h

theorem confirmCall_poolInv (h : s.PoolInv) (p : PortId) (index gen : Nat) : (confirmCall p index gen s).2.PoolInv := by
  unfold confirmCall
  split
  · exact h
  rename_i r hf
  obtain ⟨-, hi, -, -⟩ := findOwnCall_ok hf
  split
  case h_1 hst =>
    have hr := h.calls index r hi
    obtain ⟨o, ho⟩ : ∃ o, r.outbound = some o := by
      cases hout : r.outbound with
      | none => rw [hr.shape.outbound.1 hout] at hst; cases hst
      | some o => exact ⟨o, rfl⟩
    obtain ⟨⟨x, hx, hh⟩, hreserved, hpay⟩ := hr.outbound o ho
    have hmem : o.circuit ∈ r.circuits := (r.mem_circuits _).2 (.inl ⟨o, ho, rfl⟩)
    have hlift := ((poolHand_nil_iff s).2 h).lift hi
    rw [List.append_nil] at hlift
    have hhold := hlift.holdCircuit hmem hx hh
    refine (hhold.place_all (i := index) (r := { r with state := .seized, deadline := none }) ?_ ?_ ?_).congr
      (fun g => ?_) (fun c => ?_) fun j => ?_
    · simp
    · refine ⟨⟨hr.shape.dest, ?_, ?_, ?_⟩, hr.circuits_nodup, fun o' ho' => ?_, fun b hb => ?_⟩
      · simp [ho]
      · simp
      · have := hr.shape.answer
        rw [hst] at this
        simpa using this
      · obtain rfl : o' = o := Option.some.inj (ho'.symm.trans ho)
        refine ⟨⟨x, hx, hh⟩, ?_, hpay⟩
        rw [holdCircuit_circuit, if_pos rfl]
        rfl
      · obtain ⟨h1, h2, h3⟩ := hr.inbound b hb
        refine ⟨h1, ?_, h3⟩
        rw [holdCircuit_circuit]
        split
        · rfl
        · exact h2
    · exact fun c => Iff.rfl
    · simp [holdOutbound, ho]
    · simp [holdOutbound, ho, holdCircuit_circuit]
    · rw [State.setCall_call, holdCircuit_call, State.setCall_call]
      simp only [holdOutbound, ho, holdCircuit_call, State.setCall_call]
      split <;> rfl
  all_goals exact h

theorem answerCall_poolInv (h : s.PoolInv) (p : PortId) (index gen : Nat) : (answerCall p index gen s).2.PoolInv := by
  unfold answerCall
  split
  · exact h
  rename_i r hf
  obtain ⟨-, hi, -, -⟩ := findOwnCall_ok hf
  split
  case h_1 hst =>
    obtain ⟨⟨hdest, hout, hdead, hans⟩, hnodup, hoinv, hbinv⟩ := h.calls index r hi
    rw [hst] at hout hdead
    refine setCall_poolInv h hi rfl ⟨⟨hdest, ?_, ?_, ?_⟩, hnodup, fun o ho => ?_, hbinv⟩
    · simpa using hout
    · simpa using hdead
    · simp
    · simpa [hst] using hoinv o ho
  all_goals exact h

/-- Rating touches STS only, so the pool and the records stand as they were. -/
theorem accumulateLeg_pool (leg : Option RatedLeg) (s : State) :
    (accumulateLeg leg s).cpl = s.cpl ∧ (accumulateLeg leg s).crt = s.crt :=
  ⟨(accumulateLeg_sameBut s leg).cpl.resolve_left (by decide), (accumulateLeg_sameBut s leg).crt.resolve_left (by decide)⟩

/-- Where CPL and CRT's records are the same, the pool and the records agree as before. -/
theorem State.PoolInv.of_blocks {s t : State} (h : s.PoolInv) (hcpl : t.cpl = s.cpl)
    (hcalls : t.crt.calls = s.crt.calls) : t.PoolInv :=
  h.congr (fun g => by simp only [State.group, hcpl]) (fun c => by simp only [State.circuit, hcpl])
    fun i => by simp only [State.call, hcalls]

theorem releaseRated_poolInv (h : s.PoolInv) (hi : s.call i = some r) : (releaseRated i r s).2.PoolInv := by
  obtain ⟨h1, h2⟩ := accumulateLeg_pool (payableLeg s r) s
  obtain ⟨h3, h4⟩ := accumulateLeg_pool (receivableLeg s r) (accumulateLeg (payableLeg s r) s)
  refine freeCall_poolInv (h.of_blocks (h3.trans h1) (by rw [h4, h2])) ?_
  rw [State.call, h4, h2]
  exact hi

theorem releaseCall_poolInv (h : s.PoolInv) (p : PortId) (index gen : Nat) : (releaseCall p index gen s).2.PoolInv := by
  unfold releaseCall
  split
  · exact h
  rename_i r hf
  obtain ⟨-, hi, -, -⟩ := findOwnCall_ok hf
  split
  case h_4 hst =>
    have hout := (h.calls index r hi).shape.outbound.2 hst
    simpa only [freeCall, freeOutbound, hout] using freeCall_poolInv h hi
  all_goals exact releaseRated_poolInv h hi

theorem expireCall_poolInv (h : s.PoolInv) (hi : s.call i = some r) : (expireCall i r s).PoolInv :=
  (freeCall_poolInv h hi).of_blocks rfl rfl

theorem execGuardExpiry_poolInv {t : State} (h : s.PoolInv) (he : execGuardExpiry i s = .next t) : t.PoolInv := by
  unfold execGuardExpiry at he
  split at he
  · exact next_inj he ▸ h
  · rename_i r hi
    exact eventWhen_keeps (P := State.PoolInv) h (fun _ => expireCall_poolInv h hi) he

theorem adoptRecord_circuits (f t : PortId) (r : CallRecord) : (adoptRecord f t r).circuits = r.circuits := by
  unfold adoptRecord; split <;> rfl

theorem adoptCalls_call (f t : PortId) (s : State) (i : Nat) :
    (adoptCalls f t s).call i = (s.call i).map (adoptRecord f t) :=
  Table.get_map none s.crt.calls (Option.map (adoptRecord f t)) rfl i

theorem adoptPort_poolInv (h : s.PoolInv) (f t : Nat) : (adoptPort f t s).2.PoolInv := by
  unfold adoptPort
  split
  · split
    · exact h
    · refine h.mapCalls _ (fun _ => rfl) (fun _ => rfl) (adoptCalls_call _ _ s) (adoptRecord_circuits _ _) fun r hr => ?_
      unfold adoptRecord
      split
      · exact ⟨⟨hr.shape.dest, hr.shape.outbound, hr.shape.deadline, hr.shape.answer⟩, hr.circuits_nodup, hr.outbound,
          hr.inbound⟩
      · exact hr
  · exact h

end Calls

/-! ### EXCHANGE_RESTART (R21, R45) -/

theorem exchangeRestart_circuit {s : State} (ht : s.TablesInv) (c : Nat) :
    (exchangeRestart s).2.circuit c = restartCircuit (s.circuit c) := by
  have hp := ((Table.wf_iff _ _ _).1 ht.circuits).1
  refine (Table.get_filter_ne Circuit.idle _ ?_ c).trans (Table.get_map _ _ restartCircuit rfl c)
  rw [List.pairwise_map]
  exact hp

theorem exchangeRestart_group (s : State) (g : Nat) :
    (exchangeRestart s).2.group g = (s.group g).map (restartGroup (restartPool s.cpl).circuits) :=
  Table.get_map none s.cpl.groups (Option.map (restartGroup (restartPool s.cpl).circuits)) rfl g

/-- After a restart a circuit is IDLE or MAINT, without a mark: MAINT where it was so or was held under a mark (R21). -/
theorem restartCircuit_eq (v : Circuit) :
    restartCircuit v = if v.state = .maint ∨ (v.held = true ∧ v.mark = true) then ⟨.maint, false⟩ else Circuit.idle := by
  obtain ⟨st, m⟩ := v
  cases st <;> cases m <;> rfl

theorem restartCircuit_not_held (v : Circuit) : (restartCircuit v).held = false ∧ (restartCircuit v).mark = false := by
  rw [restartCircuit_eq]
  split <;> exact ⟨rfl, rfl⟩

theorem exchangeRestart_poolInv {s : State} (ht : s.TablesInv) (h : s.PoolInv) : (exchangeRestart s).2.PoolInv := by
  have hc := exchangeRestart_circuit ht
  have hidle : ∀ c, ((exchangeRestart s).2.circuit c).held = false := fun c => by
    rw [hc]; exact (restartCircuit_not_held _).1
  have back : ∀ g r, (exchangeRestart s).2.group g = some r →
      ∃ x, s.group g = some x ∧ r = restartGroup (restartPool s.cpl).circuits x := fun g r hr => by
    rw [exchangeRestart_group, Option.map_eq_some_iff] at hr
    obtain ⟨x, hx, rfl⟩ := hr
    exact ⟨x, hx, rfl⟩
  refine ⟨fun g r hr => ?_, fun g r g' r' c hr hr' hh hh' => ?_, fun c hn => ?_, fun c hm => ?_, fun i r hr => ?_,
    fun c hh => ?_, fun i r j r' c hr => ?_⟩
  · obtain ⟨x, hx, rfl⟩ := back g r hr
    have hinv := h.groups g x hx
    refine ⟨⟨hinv.range.count, hinv.range.last, hinv.range.carrier, hinv.range.reserve, hinv.range.profile⟩,
      (circuitRange_nodup _ _).filter _, fun c => ?_, ?_, fun _ => rfl, fun hs => ?_⟩
    · simp only [restartGroup, List.mem_filter, decide_eq_true_eq, mem_circuitRange]
      exact Iff.rfl
    · refine (List.countP_eq_zero.2 fun c _ => ?_).symm
      simp [hidle c]
    · simp only [restartGroup] at hs
      split at hs
      · cases hs
      · exact absurd hs (by assumption)
  · obtain ⟨x, hx, rfl⟩ := back g r hr
    obtain ⟨y, hy, rfl⟩ := back g' r' hr'
    exact h.apart g x g' y c hx hy hh hh'
  · have hs : s.circuit c ≠ Circuit.idle := fun hs => hn (by rw [hc, hs]; rfl)
    obtain ⟨g, r, hr, hh⟩ := h.assigned c hs
    exact ⟨g, restartGroup (restartPool s.cpl).circuits r, by rw [exchangeRestart_group, hr]; rfl, hh⟩
  · rw [hc, (restartCircuit_not_held _).2] at hm
    cases hm
  · cases hr
  · rw [hidle c] at hh
    cases hh
  · cases hr

end Sys2Proof.Machine
end

section
/-! SUPPORT. The requests on groups and circuits (R8 to R16) keep the circuit pool and the call records in agreement. -/

namespace Sys2Proof.Machine

/-! ### DEFINE_GROUP (R8 to R10) -/

theorem mayRedefine_iff (x : Option Group) :
    mayRedefine x = true ↔ ∀ r, x = some r → r.state = .blocked ∧ r.busy = 0 := by
  cases x <;> simp [mayRedefine]

theorem rangesMeet_iff (a : GroupArg) (r : Group) :
    rangesMeet a.first a.count r.first r.count = true ↔ a.first < r.first + r.count ∧ r.first < a.first + a.count := by
  simp [rangesMeet]

/-- Whether a new range meets another group's, said of the ranges (step 4 of R8). -/
theorem overlaps_eq_false_iff {s : State} (ht : s.TablesInv) (g : Nat) (a : GroupArg) :
    overlaps s g a = false ↔ ∀ g' x, g' ≠ g → s.group g' = some x →
      ¬ (a.first < x.first + x.count ∧ x.first < a.first + a.count) := by
  simp only [overlaps, List.any_eq_false, Bool.and_eq_true, decide_eq_true_eq, Option.any_eq_true, not_and, not_exists]
  constructor
  · intro h g' x hg hx h1 h2
    exact h _ (mem_of_get _ _ _ hx) hg x rfl ((rangesMeet_iff a x).2 ⟨h1, h2⟩)
  · rintro h ⟨g', v⟩ he hg x hv hm
    obtain ⟨h1, h2⟩ := (rangesMeet_iff a x).1 hm
    exact h g' x hg ((get_of_mem_of_wf _ _ ht.groups _ _ he).trans hv) h1 h2

/-- What the structural checks of a define form ask for, and what they read (step 2 of R8). -/
theorem groupStructure_some_iff (a : GroupArg) (d : Direction) (l : GlareRule) :
    groupStructure a = some (d, l) ↔ (1 ≤ a.count ∧ a.count ≤ 1024 ∧ a.first + a.count ≤ 16384 ∧ a.carrier ≤ 63
      ∧ a.profile ≤ 7 ∧ ∀ c ∈ a.maint, a.first ≤ c ∧ c < a.first + a.count)
      ∧ directionOf a.direction = some d ∧ glareOf a.glare = some l := by
  have hcond : (1 ≤ a.count ∧ a.count ≤ Config.maxGroupCircuits ∧ a.first + a.count - 1 ≤ Config.lastCircuit
      ∧ a.carrier ≤ Config.lastCarrier ∧ a.profile ≤ 7
      ∧ a.maint.all (fun c => decide (a.first ≤ c) && decide (c < a.first + a.count)) = true)
      ↔ (1 ≤ a.count ∧ a.count ≤ 1024 ∧ a.first + a.count ≤ 16384 ∧ a.carrier ≤ 63
      ∧ a.profile ≤ 7 ∧ ∀ c ∈ a.maint, a.first ≤ c ∧ c < a.first + a.count) := by
    simp only [Config.maxGroupCircuits, Config.lastCircuit, Config.lastCarrier, List.all_eq_true, Bool.and_eq_true,
      decide_eq_true_eq]
    constructor <;> rintro ⟨h1, h2, h3, h4⟩ <;> exact ⟨h1, h2, by omega, h4⟩
  unfold groupStructure
  split
  · rename_i h
    rw [hcond] at h
    split
    · rename_i d' l' hd hl
      simp only [hd, hl, Option.some.injEq, Prod.mk.injEq]
      exact (and_iff_right h).symm
    · rename_i hn
      simp only [reduceCtorEq, false_iff]
      rintro ⟨-, hd, hl⟩
      exact hn d l hd hl
  · rename_i h
    rw [hcond] at h
    simp [h]

theorem get_maint_foldl (l : List Nat) (t : Table Circuit) (c : Nat) :
    Table.get Circuit.idle (l.foldl (fun t c => Table.set Circuit.idle t c ⟨.maint, false⟩) t) c =
      if c ∈ l then ⟨.maint, false⟩ else Table.get Circuit.idle t c := by
  induction l generalizing t with
  | nil => simp
  | cons a l ih =>
    rw [List.foldl_cons, ih, Table.get_set]
    by_cases h : c ∈ l
    · simp [h]
    · by_cases ha : c = a <;> simp [h, ha]

theorem get_releaseRange (t : Table Circuit) (old : Option Group) (c : Nat) :
    Table.get Circuit.idle (releaseRange t old) c =
      if old.any (groupHolds c) = true then Circuit.idle else Table.get Circuit.idle t c := by
  cases old with
  | none => simp [releaseRange]
  | some r => rw [releaseRange, Table.get_clearRange]; simp only [Option.any_some, groupHolds_iff]

theorem get_definedCircuits (t : Table Circuit) (old : Option Group) (a : GroupArg)
    (ha : ∀ c ∈ a.maint, a.first ≤ c ∧ c < a.first + a.count) (c : Nat) :
    Table.get Circuit.idle (definedCircuits t old a) c =
      if a.first ≤ c ∧ c < a.first + a.count then (if c ∈ a.maint then ⟨.maint, false⟩ else Circuit.idle)
      else if old.any (groupHolds c) = true then Circuit.idle else Table.get Circuit.idle t c := by
  rw [definedCircuits, get_maint_foldl, Table.get_clearRange, get_releaseRange]
  by_cases hm : c ∈ a.maint
  · rw [if_pos hm, if_pos (ha c hm), if_pos hm]
  · rw [if_neg hm, if_neg hm]

section Redefine

variable {s : State} (g : Nat) (x : Option Group) (circuits : Table Circuit)

theorem rewriteGroup_group (g' : Nat) : (rewriteGroup g x circuits s).group g' = if g' = g then x else s.group g' :=
  State.setGroup_group s g x g'

theorem rewriteGroup_circuit (c : Nat) :
    (rewriteGroup g x circuits s).circuit c = Table.get Circuit.idle circuits c := rfl

theorem rewriteGroup_congestion (g' : Nat) : (rewriteGroup g x circuits s).congestion g' =
    if g' = g then CongestionRecord.zero else s.congestion g' :=
  State.setCongestion_congestion _ _ _ _

end Redefine

/-- A group with nothing busy holds no circuit of a call. -/
theorem State.PoolInv.not_held_of_busy_zero {s : State} (h : s.PoolInv) {g c : Nat} {r : Group}
    (hg : s.group g = some r) (hb : r.busy = 0) (hh : groupHolds c r = true) : (s.circuit c).held = false := by
  have := (h.groups g r hg).busy
  rw [hb, eq_comm, List.countP_eq_zero] at this
  simpa using this c ((mem_circuitRange c r).2 hh)

/-- A group with nothing busy is rewritten: its old range and its new one hold no circuit of a call, and no other group meets the new one. -/
theorem State.PoolInv.redefine {s t : State} {g : Nat} {x : Option Group} (h : s.PoolInv)
    (hbusy : ∀ r, s.group g = some r → r.busy = 0)
    (hg : ∀ g', t.group g' = if g' = g then x else s.group g') (hi : ∀ i, t.call i = s.call i)
    (hnew : ∀ r, x = some r → t.GroupInv r ∧ ∀ c, groupHolds c r = true →
      (t.circuit c).held = false ∧ (t.circuit c).mark = false
        ∧ ∀ g' y, g' ≠ g → s.group g' = some y → groupHolds c y = false)
    (hold : ∀ c, x.any (groupHolds c) = false → t.circuit c =
      if (s.group g).any (groupHolds c) = true then Circuit.idle else s.circuit c) : t.PoolInv := by
  have hout : ∀ c, x.any (groupHolds c) = false → (s.circuit c).held = true → t.circuit c = s.circuit c := by
    intro c hc hh
    rw [hold c hc, if_neg]
    rw [Option.any_eq_true]
    rintro ⟨r, hr, hrc⟩
    rw [h.not_held_of_busy_zero hr (hbusy r hr) hrc] at hh
    cases hh
  have hheld : ∀ c, (t.circuit c).held = true → x.any (groupHolds c) = false ∧ t.circuit c = s.circuit c := by
    intro c hh
    have hx : x.any (groupHolds c) = false := by
      cases hx : x with
      | none => rfl
      | some r =>
        refine Bool.eq_false_iff.2 fun hc => ?_
        rw [((hnew r hx).2 c hc).1] at hh
        cases hh
    refine ⟨hx, ?_⟩
    have := hold c hx
    split at this
    · rw [this] at hh; cases hh
    · exact this
  have hside : ∀ g' c y, s.group g' = some y → groupHolds c y = true → (s.circuit c).held = true →
      g' ≠ g ∧ t.circuit c = s.circuit c := by
    intro g' c y hy hh hc
    have hne : g' ≠ g := by
      rintro rfl
      rw [h.not_held_of_busy_zero hy (hbusy y hy) hh] at hc
      cases hc
    refine ⟨hne, hout c ?_ hc⟩
    cases hx : x with
    | none => rfl
    | some r =>
      refine Bool.eq_false_iff.2 fun hr => ?_
      rw [((hnew r hx).2 c hr).2.2 g' y hne hy] at hh
      cases hh
  refine ⟨fun g' r hr => ?_, fun g1 r1 g2 r2 c h1 h2 hh1 hh2 => ?_, fun c hn => ?_, fun c hm => ?_,
    fun i r hr => ?_, fun c hh => ?_, fun i r j r' c hr hr' => h.once i r j r' c (hi i ▸ hr) (hi j ▸ hr')⟩
  · rw [hg] at hr
    split at hr
    · exact (hnew r hr).1
    · rename_i hne
      refine (h.groups g' r hr).congr fun c hh => ?_
      rw [hold c, if_neg]
      · rw [Option.any_eq_true]
        rintro ⟨y, hy, hyc⟩
        exact hne (h.apart g' r g y c hr hy hh hyc)
      · cases hx : x with
        | none => rfl
        | some y =>
          refine Bool.eq_false_iff.2 fun hy => ?_
          rw [((hnew y hx).2 c hy).2.2 g' r hne hr] at hh
          cases hh
  · rw [hg] at h1 h2
    split at h1 <;> split at h2
    · simp_all
    · rename_i e1 e2
      rw [((hnew r1 h1).2 c hh1).2.2 g2 r2 e2 h2] at hh2
      cases hh2
    · rename_i e1 e2
      rw [((hnew r2 h2).2 c hh2).2.2 g1 r1 e1 h1] at hh1
      cases hh1
    · exact h.apart g1 r1 g2 r2 c h1 h2 hh1 hh2
  · cases hx : x.any (groupHolds c) with
    | true =>
      obtain ⟨r, hr, hh⟩ := (Option.any_eq_true _ _).1 hx
      exact ⟨g, r, by rw [hg, if_pos rfl, hr], hh⟩
    | false =>
      have := hold c hx
      split at this
      · exact absurd this hn
      · rename_i hno
        rw [this] at hn
        obtain ⟨g', r, hr, hh⟩ := h.assigned c hn
        refine ⟨g', r, ?_, hh⟩
        rw [hg, if_neg, hr]
        rintro rfl
        exact hno (by rw [hr]; exact hh)
  · cases hx : x.any (groupHolds c) with
    | true =>
      obtain ⟨r, hr, hh⟩ := (Option.any_eq_true _ _).1 hx
      rw [((hnew r hr).2 c hh).2.1] at hm
      cases hm
    | false =>
      have := hold c hx
      split at this
      · rw [this] at hm; cases hm
      · rw [this] at hm ⊢; exact h.marks c hm
  · rw [hi] at hr
    have hinv := h.calls i r hr
    refine ⟨hinv.shape, hinv.circuits_nodup, fun o ho => ?_, fun b hb => ?_⟩
    · obtain ⟨⟨y, hy, hh⟩, h2, h3⟩ := hinv.outbound o ho
      obtain ⟨hne, hc⟩ := hside _ _ _ hy hh (hinv.held ((r.mem_circuits _).2 (.inl ⟨o, ho, rfl⟩)))
      have hgo : t.group o.group = s.group o.group := (hg _).trans (if_neg hne)
      exact ⟨⟨y, hgo.trans hy, hh⟩, by rw [hc, h2], by rw [h3, carrierOf_of_rangeOf (rangeOf_congr hgo)]⟩
    · obtain ⟨⟨y, hy, hh⟩, h2, h3⟩ := hinv.inbound b hb
      obtain ⟨hne, hc⟩ := hside _ _ _ hy hh (hinv.held ((r.mem_circuits _).2 (.inr ⟨b, hb, rfl⟩)))
      have hgb : t.group b.group = s.group b.group := (hg _).trans (if_neg hne)
      exact ⟨⟨y, hgb.trans hy, hh⟩, by rw [hc, h2], by rw [h3, carrierOf_of_rangeOf (rangeOf_congr hgb)]⟩
  · obtain ⟨-, he⟩ := hheld c hh
    rw [he] at hh
    simp only [hi]
    exact h.held c hh

theorem removeGroup_poolInv {s : State} (h : s.PoolInv) (g form : Nat) : (removeGroup g form s).2.PoolInv := by
  unfold removeGroup
  split
  · exact h
  split
  · exact h
  · rename_i hm
    simp only [Bool.not_eq_true', Bool.not_eq_false, mayRedefine_iff] at hm
    exact h.redefine (fun r hr => (hm r hr).2) (rewriteGroup_group g _ _) (fun _ => rfl) (fun r hr => by cases hr)
      fun c _ => get_releaseRange _ _ _

/-- The record that a valid definition makes stands rightly against the circuits that it makes (R2, R4, R5, R9). -/
theorem definedGroup_groupInv {t : State} {a : GroupArg} {d : Direction} {l : GlareRule}
    (ha : groupStructure a = some (d, l)) (hc : ∀ c, groupHolds c (definedGroup a d l) = true →
      t.circuit c = if c ∈ a.maint then ⟨.maint, false⟩ else Circuit.idle) : t.GroupInv (definedGroup a d l) := by
  obtain ⟨⟨h1, h2, h3, h4, h5, -⟩, -, -⟩ := (groupStructure_some_iff a d l).1 ha
  refine ⟨⟨⟨h1, h2⟩, h3, h4, Nat.min_le_right _ _, h5⟩, (circuitRange_nodup _ _).filter _, fun c => ?_, ?_,
    (fun hs => by cases hs), fun hs => by cases hs⟩
  · have hmem := mem_circuitRange c (definedGroup a d l)
    simp only [definedGroup, List.mem_filter, decide_eq_true_eq] at hmem ⊢
    rw [hmem]
    refine and_congr_right fun hh => ?_
    rw [hc c hh]
    split <;> simp [Circuit.idle, *]
  · refine (List.countP_eq_zero.2 fun c hm => ?_).symm
    rw [hc c ((mem_circuitRange c _).1 hm)]
    split <;> simp [Circuit.held, Circuit.idle]

theorem defineGroup_poolInv {s : State} (ht : s.TablesInv) (h : s.PoolInv) (g : Nat) (a : GroupArg) :
    (defineGroup g a s).2.PoolInv := by
  unfold defineGroup
  split
  · exact h
  split
  · exact h
  rename_i d l ha
  split
  · exact h
  rename_i hm
  split
  · exact h
  rename_i ho
  simp only [Bool.not_eq_true', Bool.not_eq_false, mayRedefine_iff] at hm
  rw [Bool.not_eq_true, overlaps_eq_false_iff ht] at ho
  obtain ⟨⟨-, -, -, -, -, hmaint⟩, -, -⟩ := (groupStructure_some_iff a d l).1 ha
  have hcirc : ∀ c, (rewriteGroup g (some (definedGroup a d l))
      (definedCircuits s.cpl.circuits (s.group g) a) s).circuit c = _ := get_definedCircuits _ _ a hmaint
  have hin : ∀ c, groupHolds c (definedGroup a d l) = true ↔ a.first ≤ c ∧ c < a.first + a.count :=
    fun c => groupHolds_iff c _
  have hat : ∀ c, groupHolds c (definedGroup a d l) = true →
      (rewriteGroup g (some (definedGroup a d l)) (definedCircuits s.cpl.circuits (s.group g) a) s).circuit c =
        if c ∈ a.maint then ⟨.maint, false⟩ else Circuit.idle := fun c hc => by
    rw [hcirc, if_pos ((hin c).1 hc)]
  refine h.redefine (fun r hr => (hm r hr).2) (rewriteGroup_group g _ _) (fun _ => rfl) (fun r hr => ?_) fun c hc => ?_
  · obtain rfl := Option.some.inj hr
    refine ⟨definedGroup_groupInv ha hat, fun c hc => ?_⟩
    rw [hat c hc]
    refine ⟨by split <;> rfl, by split <;> rfl, fun g' y hne hy => Bool.eq_false_iff.2 fun hh => ?_⟩
    have h1 := (hin c).1 hc
    have h2 := (groupHolds_iff c y).1 hh
    exact ho g' y hne hy ⟨by omega, by omega⟩
  · rw [hcirc, if_neg]
    · rfl
    · rw [← hin c]
      simpa using hc

/-! ### SET_GROUP_STATE and SET_RESERVE (R11, R12, R14) -/

/-- A group record rewritten but for its circuits. -/
theorem setGroup_poolInv {s : State} {g : Nat} {r r' : Group} (h : s.PoolInv) (hg : s.group g = some r)
    (hrange : r'.first = r.first ∧ r'.count = r.count ∧ r'.carrier = r.carrier ∧ r'.profile = r.profile)
    (hfree : r'.freeList = r.freeList) (hbusy : r'.busy = r.busy) (hres : r.reserve ≤ r.count → r'.reserve ≤ r'.count)
    (hblocked : r'.state = .blocked → r'.busy = 0) (hdraining : r'.state = .draining → 0 < r'.busy) :
    (s.setGroup g (some r')).PoolInv := by
  obtain ⟨h1, h2, h3, h4⟩ := hrange
  have hr := h.groups g r hg
  have hh : groupHolds r.first r = true := (groupHolds_iff _ _).2 ⟨le_refl _, by have := hr.range.count; omega⟩
  refine (poolHand_nil_iff _).1 (((poolHand_nil_iff s).2 h).move (g := g) (c := r.first) (v := s.circuit r.first)
    ⟨hg, hh, State.setGroup_group s g _, fun c' => ?_, fun _ => rfl⟩
    ⟨h1, h2, h3, hres, h4, by rw [hfree]; exact hr.free_nodup, fun x => ?_, by rw [hbusy], hblocked, hdraining⟩
    (h.marks _) (fun _ _ _ _ => rfl) fun x => ?_)
  · split
    · rename_i hc; rw [hc]; rfl
    · rfl
  · rw [hfree]
    split
    · rename_i hx
      rw [hx, hr.free, hh]
      simp
    · exact Iff.rfl
  · by_cases hx : x = r.first
    · subst hx
      simp only [List.not_mem_nil, if_true, false_iff, not_and, not_forall, not_not]
      intro hheld
      obtain ⟨i, y, hy, hm⟩ := h.held _ hheld
      exact ⟨i, y, hy, hm⟩
    · simp [hx]

theorem blockGroup_poolInv {s : State} (h : s.PoolInv) (g : Nat) : (blockGroup g s).2.PoolInv := by
  unfold blockGroup
  split
  · exact h
  split
  · exact h
  rename_i r hg
  have hr := h.groups g r hg
  refine setGroup_poolInv h hg ⟨rfl, rfl, rfl, rfl⟩ rfl rfl id (fun hs => ?_) fun hs => ?_ <;>
    simp only [blockedState] at hs ⊢ <;> split at hs <;> rename_i hst
  · split at hs
    · assumption
    · cases hs
  · cases hs
  · exact hr.blocked hst
  · split at hs
    · cases hs
    · omega
  · exact hr.draining hst
  · cases hs

theorem unblockGroup_poolInv {s : State} (h : s.PoolInv) (g form : Nat) : (unblockGroup g form s).2.PoolInv := by
  unfold unblockGroup
  split
  · exact h
  split
  · exact h
  · rename_i r hg
    exact setGroup_poolInv h hg ⟨rfl, rfl, rfl, rfl⟩ rfl rfl id (fun hs => by cases hs) fun hs => by cases hs

theorem setReserve_poolInv {s : State} (h : s.PoolInv) (g n : Nat) : (setReserve g n s).2.PoolInv := by
  unfold setReserve
  split
  · exact h
  split
  · exact h
  · rename_i r hg
    exact setGroup_poolInv h hg ⟨rfl, rfl, rfl, rfl⟩ rfl rfl (fun _ => Nat.min_le_right _ _) (h.groups g r hg).blocked
      (h.groups g r hg).draining

/-! ### CIRCUIT_MAINT (R15, R16) -/

section Maint

variable {s : State} {g c : Nat} {r : Group}

theorem moveCircuit_some (hg : s.group g = some r) (v : Circuit) (l : List Nat → List Nat) :
    moveCircuit g c v l s = (s.setCircuit c v).setGroup g (some { r with freeList := l r.freeList }) := by
  simp only [moveCircuit, hg]

/-- A circuit of a group is moved between IDLE and MAINT with its place in the free list. -/
theorem moveCircuit_poolInv {v : Circuit} {l : List Nat → List Nat} (h : s.PoolInv) (hg : s.group g = some r)
    (hh : groupHolds c r = true) (hold : (s.circuit c).held = false) (hv : v.held = false) (hm : v.mark = false)
    (hn : (l r.freeList).Nodup) (hl : ∀ x, x ∈ l r.freeList ↔ if x = c then v.state = .idle else x ∈ r.freeList) :
    (moveCircuit g c v l s).PoolInv := by
  have hp := (poolHand_nil_iff s).2 h
  have hr := h.groups g r hg
  rw [moveCircuit_some hg]
  refine (poolHand_nil_iff _).1 (hp.move (g := g) (c := c) (v := v) (r' := { r with freeList := l r.freeList })
    ⟨hg, hh, fun g' => by simp, fun c' => by simp, fun _ => rfl⟩
    ⟨rfl, rfl, rfl, id, rfl, hn, hl, by rw [hold, hv], hr.blocked, hr.draining⟩ (fun hx => by rw [hm] at hx; cases hx)
    (fun i x hx hc => absurd hc (hp.not_mem_of_not_held hold hx)) fun x => ?_)
  by_cases hx : x = c
  · simp [hx, hv]
  · simp [hx]

/-- A held circuit is marked, or loses its mark. -/
theorem setMark_poolInv (h : s.PoolInv) (hg : s.group g = some r) (hh : groupHolds c r = true)
    (hheld : (s.circuit c).held = true) (m : Bool) : (s.setCircuit c { s.circuit c with mark := m }).PoolInv := by
  have hv : ({ s.circuit c with mark := m } : Circuit).held = true := hheld
  have hr := h.groups g r hg
  refine (poolHand_nil_iff _).1 (((poolHand_nil_iff s).2 h).move (g := g) (c := c) (r := r) (r' := r)
    (v := { s.circuit c with mark := m }) ⟨hg, hh, fun g' => ?_, fun c' => by simp, fun _ => rfl⟩
    ⟨rfl, rfl, rfl, id, rfl, hr.free_nodup, fun x => ?_, by rw [hv, hheld], hr.blocked, hr.draining⟩ (fun _ => hv)
    (fun _ _ _ _ => rfl) fun x => ?_)
  · split
    · rename_i hgg; rw [hgg]; exact hg
    · rfl
  · split
    · rename_i hx
      rw [hx, hr.free, hh]
      simp
    · exact Iff.rfl
  · by_cases hx : x = c
    · subst hx
      simp only [List.not_mem_nil, if_true, false_iff, not_and, not_forall, not_not]
      intro _
      obtain ⟨i, y, hy, hm⟩ := h.held _ hheld
      exact ⟨i, y, hy, hm⟩
    · simp [hx]

theorem takeOut_poolInv (h : s.PoolInv) (hg : s.group g = some r) (hh : groupHolds c r = true) :
    (takeOut g c s).PoolInv := by
  have hr := h.groups g r hg
  unfold takeOut
  split <;> rename_i hst
  · refine moveCircuit_poolInv h hg hh ((held_eq_false_iff _).2 (.inl hst)) rfl rfl (hr.free_nodup.erase c) fun x => ?_
    rw [hr.free_nodup.mem_erase_iff]
    by_cases hx : x = c <;> simp [hx]
  · exact setMark_poolInv h hg hh ((held_iff _).2 (.inl hst)) true
  · exact setMark_poolInv h hg hh ((held_iff _).2 (.inr hst)) true
  · exact h

theorem putBack_poolInv (h : s.PoolInv) (hg : s.group g = some r) (hh : groupHolds c r = true) :
    (putBack g c s).PoolInv := by
  have hr := h.groups g r hg
  unfold putBack
  split <;> rename_i hst
  · have hfree : c ∉ r.freeList := fun hm => by
      rw [((hr.free c).1 hm).2] at hst
      cases hst
    refine moveCircuit_poolInv h hg hh ((held_eq_false_iff _).2 (.inr hst)) rfl rfl ?_ fun x => ?_
    · exact List.nodup_append_comm.1 (by simpa using ⟨hfree, hr.free_nodup⟩ : ([c] ++ r.freeList).Nodup)
    · by_cases hx : x = c <;> simp [hx, Circuit.idle]
  · exact setMark_poolInv h hg hh ((held_iff _).2 (.inl hst)) false
  · exact setMark_poolInv h hg hh ((held_iff _).2 (.inr hst)) false
  · exact h

theorem circuitOut_poolInv (ht : s.TablesInv) (h : s.PoolInv) (c : Nat) : (circuitOut c s).2.PoolInv := by
  unfold circuitOut
  split
  · exact h
  split
  · exact h
  · obtain ⟨r, hg, hh⟩ := holds_of_groupOf ht (by assumption)
    exact takeOut_poolInv h hg hh

theorem circuitReturn_poolInv (ht : s.TablesInv) (h : s.PoolInv) (c form : Nat) :
    (circuitReturn c form s).2.PoolInv := by
  unfold circuitReturn
  split
  · exact h
  split
  · exact h
  · obtain ⟨r, hg, hh⟩ := holds_of_groupOf ht (by assumption)
    exact putBack_poolInv h hg hh

end Maint

end Sys2Proof.Machine
end

section
/-! SUPPORT. ROUTE and REROUTE (R38, R59, R65) keep the circuit pool and the call records in agreement. -/

namespace Sys2Proof.Machine

/-! ### The inbound circuit of a call -/

/-- The circuit that a displaced reservation leaves in hand (R31). -/
def planHand : InboundPlan → List Nat
  | .originating => []
  | .take _ _ => []
  | .displaced _ c => [c]

/-- The inbound circuit of a plan. -/
def planCircuits : InboundPlan → List Nat
  | .originating => []
  | .take _ c => [c]
  | .displaced _ c => [c]

/-- What the checks of R29 leave for the inbound circuit: a circuit of its group, IDLE and in a group that is not BLOCKED where it is yet to be taken. -/
def State.PlanOk (s : State) : InboundPlan → Prop
  | .originating => True
  | .take g c => ∃ r, s.group g = some r ∧ groupHolds c r = true ∧ (s.circuit c).state = .idle ∧ r.state ≠ .blocked
  | .displaced g c => s.Holds g c

section Plans

variable {s : State} {plan : InboundPlan}

/-- Once the inbound circuit is taken, it is in hand and BUSY. -/
theorem takeInbound_poolHand (h : s.PoolHand (planHand plan)) (hp : s.PlanOk plan) :
    (takeInbound plan s).PoolHand (planCircuits plan)
      ∧ ∀ c ∈ planCircuits plan, ((takeInbound plan s).circuit c).state = .busy := by
  cases plan with
  | originating => exact ⟨h, by simp [planCircuits]⟩
  | take g c =>
    obtain ⟨r, hg, hh, hi, hb⟩ := hp
    refine ⟨State.PoolHand.inboundTake h hg hh hi hb, fun c' hc => ?_⟩
    obtain rfl := List.mem_singleton.1 hc
    simp [takeInbound, inboundTake_circuit g c' s r hg]
  | displaced g c =>
    obtain ⟨r, hg, hh⟩ := hp
    refine ⟨State.PoolHand.holdCircuit h (by simp [planCircuits]) hg hh, fun c' hc => ?_⟩
    obtain rfl := List.mem_singleton.1 hc
    simp [takeInbound, holdCircuit_circuit]

/-- A routing that fails leaves nothing in hand (R32). -/
theorem dropInbound_poolInv (h : s.PoolHand (planHand plan)) (hp : s.PlanOk plan) : (dropInbound plan s).PoolInv := by
  cases plan with
  | originating => exact (poolHand_nil_iff s).1 h
  | take g c => exact (poolHand_nil_iff s).1 h
  | displaced g c =>
    obtain ⟨r, hg, hh⟩ := hp
    exact (poolHand_nil_iff _).1 (State.PoolHand.freeCircuit h (by simp) hg hh)

@[simp] theorem takeInbound_rangeOf (plan : InboundPlan) (s : State) (g : Nat) :
    (takeInbound plan s).rangeOf g = s.rangeOf g := by
  cases plan with
  | originating => rfl
  | take g' c => exact inboundTake_rangeOf g' c s g
  | displaced g' c => rfl

/-- Taking the inbound circuit leaves the groups other than its own. -/
theorem takeInbound_group {g : Nat} (h : planGroup plan ≠ some g) : (takeInbound plan s).group g = s.group g := by
  cases plan with
  | originating => rfl
  | take g' c =>
    rw [takeInbound, inboundTake_group, if_neg]
    rintro rfl
    exact h rfl
  | displaced g' c => rfl

@[simp] theorem takeInbound_call (plan : InboundPlan) (s : State) (i : Nat) :
    (takeInbound plan s).call i = s.call i := by
  cases plan with
  | originating => rfl
  | take g' c => exact inboundTake_call g' c s i
  | displaced g' c => rfl

theorem planInbound_some {b : Inbound} (h : planInbound s plan = some b) :
    ∃ g c, (plan = .take g c ∨ plan = .displaced g c) ∧ b = inboundSide s g c := by
  cases plan with
  | originating => cases h
  | take g c => exact ⟨g, c, .inl rfl, (Option.some.inj h).symm⟩
  | displaced g c => exact ⟨g, c, .inr rfl, (Option.some.inj h).symm⟩

theorem State.PlanOk.holds {g c : Nat} (hp : s.PlanOk plan) (h : plan = .take g c ∨ plan = .displaced g c) :
    s.Holds g c := by
  rcases h with rfl | rfl
  · obtain ⟨r, hg, hh, -⟩ := hp
    exact ⟨r, hg, hh⟩
  · exact hp

end Plans

/-! ### What a winning walk records (R112, R113) -/

section Winner

variable {s : State} {inbound : Option Nat} {w : Winner} {x : Group}

/-- A payable slot is locked exactly where the winner's carrier is not the own network (R112). -/
theorem State.Wins.payable (hw : s.Wins inbound w x) : payableSlot s w.group = none ↔ s.carrierOf w.group = 0 := by
  unfold payableSlot
  split
  · simp [*]
  · rename_i hne
    rw [carrierOf_some hw.group] at hne ⊢
    simp only [hne, iff_false]
    exact agreedSlot_of_isConfirmed (hw.carrier.resolve_left hne)

theorem receivableSlot_eq_none_iff (s : State) (g : Nat) : receivableSlot s g = none ↔ s.carrierOf g = 0 := by
  unfold receivableSlot
  split <;> simp [*]

/-- The winner's outbound side stands rightly once its circuit has been hunted. -/
theorem State.Wins.outbound_ok {t : State} (hw : s.Wins inbound w x) (cls : CallClass) {L : List Nat}
    (h : t.PoolHand L) (hg : t.group w.group = some x) (hr : t.rangeOf w.group = s.rangeOf w.group) :
    (∃ g, (outboundHunt w.group w.circuit t).group w.group = some g ∧ groupHolds w.circuit g = true)
      ∧ ((outboundHunt w.group w.circuit t).circuit w.circuit).state = .reserved
      ∧ ((outboundOf s cls w).payable = none ↔ (outboundHunt w.group w.circuit t).carrierOf w.group = 0) := by
  obtain ⟨hh, -⟩ := h.of_head hg hw.head
  refine ⟨(holds_congr (outboundHunt_rangeOf _ _ t _) _).2 ⟨x, hg, hh⟩, ?_, ?_⟩
  · rw [outboundHunt_circuit _ _ _ _ hg, if_pos rfl]
  · rw [carrierOf_of_rangeOf (outboundHunt_rangeOf _ _ t _), carrierOf_of_rangeOf hr]
    exact hw.payable

theorem State.Wins.not_blocked (hw : s.Wins inbound w x) : x.state ≠ .blocked := by
  rw [hw.inService]; decide

end Winner

/-! ### ROUTE -/

section Route

variable {s : State} {p : PortId} {d i : Nat} {cls : CallClass} {plan : InboundPlan} {w : Winner} {x : Group}

/-- The winning circuit is IDLE, so it is none of those in hand. -/
theorem State.PoolHand.head_not_mem {L : List Nat} {g c : Nat} {r : Group} (h : s.PoolHand L)
    (hg : s.group g = some r) (hc : r.freeList.head? = some c) : c ∉ L :=
  h.not_mem_hand ((held_eq_false_iff _).2 (.inl (h.of_head hg hc).2))

theorem completeRoute_poolInv (h : s.PoolHand (planHand plan)) (hp : s.PlanOk plan)
    (hw : s.Wins (planGroup plan) w x) (hi : s.call i = none) (hd : d ≤ Config.lastDest) :
    (completeRoute p d cls plan i w s).2.PoolInv := by
  obtain ⟨htake, hbusy⟩ := takeInbound_poolHand h hp
  have hg : (takeInbound plan s).group w.group = some x := (takeInbound_group hw.apart).trans hw.group
  have hhunt := htake.outboundHunt hg hw.head hw.not_blocked
  have hne : ∀ c ∈ planCircuits plan, c ≠ w.circuit := fun c hc he => htake.head_not_mem hg hw.head (he ▸ hc)
  have hrecord : (routedRecord s p d cls plan w).circuits = w.circuit :: planCircuits plan := by
    cases plan <;> rfl
  have hinv : (outboundHunt w.group w.circuit (takeInbound plan s)).CallInv (routedRecord s p d cls plan w) := by
    refine ⟨⟨hd, by simp [routedRecord], by simp [routedRecord], by simp [routedRecord]⟩, ?_, fun o ho => ?_,
      fun b hb => ?_⟩
    · rw [hrecord]
      cases plan <;> simp [planCircuits] at hne ⊢ <;> exact fun he => hne he.symm
    · obtain rfl := Option.some.inj ho
      exact hw.outbound_ok cls htake hg (takeInbound_rangeOf _ _ _)
    · obtain ⟨g, c, hplan, rfl⟩ := planInbound_some hb
      have hmem : c ∈ planCircuits plan := by rcases hplan with rfl | rfl <;> simp [planCircuits]
      have hrange : ∀ g', (outboundHunt w.group w.circuit (takeInbound plan s)).rangeOf g' = s.rangeOf g' := by simp
      refine ⟨(holds_congr (hrange g) c).2 (hp.holds hplan), ?_, ?_⟩
      · show ((outboundHunt w.group w.circuit (takeInbound plan s)).circuit c).state = .busy
        rw [outboundHunt_circuit _ _ _ _ hg, if_neg (hne c hmem)]
        exact hbusy c hmem
      · rw [carrierOf_of_rangeOf (hrange _)]
        exact receivableSlot_eq_none_iff s g
  exact (hhunt.place_all (i := i) (by simpa using hi) hinv (by simp [hrecord])).congr (fun _ => rfl) (fun _ => rfl)
    fun _ => rfl

/-- A walk's counts are no concern of the pool. -/
theorem State.PoolHand.counted {L : List Nat} (h : s.PoolHand L) (cmn : CongestionMonitor) :
    State.PoolHand { s with cmn := cmn } L :=
  h.congr (fun _ => rfl) (fun _ => rfl) fun _ => rfl

theorem State.Wins.counted {inbound : Option Nat} (hw : s.Wins inbound w x) (cmn : CongestionMonitor) :
    State.Wins { s with cmn := cmn } inbound w x :=
  ⟨hw.group, hw.inService, hw.apart, hw.carrier, hw.head⟩

theorem State.PlanOk.counted (hp : s.PlanOk plan) (cmn : CongestionMonitor) :
    State.PlanOk { s with cmn := cmn } plan := by
  cases plan <;> exact hp

theorem routeWith_poolInv (h : s.PoolHand (planHand plan)) (hp : s.PlanOk plan) (hi : s.call i = none)
    (hd : d ≤ Config.lastDest) : (routeWith p d cls plan i s).2.PoolInv := by
  unfold routeWith
  split <;> rename_i he <;> obtain ⟨records, rfl⟩ := selectRoute_state he
  · exact dropInbound_poolInv (h.counted _) (hp.counted _)
  · obtain ⟨x, hw⟩ := selectRoute_wins he
    exact completeRoute_poolInv (h.counted _) (hp.counted _) (hw.counted _) hi hd

/-! ### The checks of R29, and displacement (R31) -/

theorem checkInbound_ok {c g : Nat} {glare : Bool} (ht : s.TablesInv) (h : checkInbound s c = .ok (g, glare)) :
    ∃ r, s.group g = some r ∧ groupHolds c r = true ∧ r.state ≠ .blocked
      ∧ (s.circuit c).state = if glare then .reserved else .idle := by
  unfold checkInbound at h
  split at h
  · cases h
  split at h
  · cases h
  rename_i g' hgo
  obtain ⟨r, hg, hh⟩ := holds_of_groupOf ht hgo
  simp only [hg] at h
  split at h
  · cases h
  rename_i hb
  split at h
  · cases h
  split at h <;> cases h
  · exact ⟨r, hg, hh, hb, by assumption⟩
  · exact ⟨r, hg, hh, hb, by assumption⟩

theorem reserves_iff (c : Nat) (r : CallRecord) :
    reserves c r = true ↔ r.state = .reserved ∧ ∃ o, r.outbound = some o ∧ o.circuit = c := by
  simp [reserves, Option.any_eq_true]

/-- A record that holds a RESERVED circuit reserves it. -/
theorem State.CallInv.reserves {r : CallRecord} {c : Nat} (h : s.CallInv r) (hm : c ∈ r.circuits)
    (hc : (s.circuit c).state = .reserved) : reserves c r = true := by
  rw [reserves_iff]
  rcases (r.mem_circuits c).1 hm with ⟨o, ho, rfl⟩ | ⟨b, hb, rfl⟩
  · refine ⟨?_, o, ho, rfl⟩
    by_contra hne
    rw [(h.outbound o ho).2.1, if_neg hne] at hc
    cases hc
  · rw [(h.inbound b hb).2.1] at hc
    cases hc

/-- The record found to reserve a circuit is the one that holds it. -/
theorem reserverOf_eq (ht : s.TablesInv) (h : s.PoolInv) {c j : Nat} {o : CallRecord} (hj : s.call j = some o)
    (hm : c ∈ o.circuits) (hc : (s.circuit c).state = .reserved) : s.reserverOf c = some j := by
  have hmem := mem_of_get _ _ _ hj
  rw [State.reserverOf, find?_unique hmem (by simpa using (h.calls j o hj).reserves hm hc)]
  · rfl
  · rintro ⟨k, v⟩ hk hv
    obtain ⟨o', rfl, hr⟩ := (Option.any_eq_true _ _).1 hv
    have hk' : s.call k = some o' := get_of_mem_of_wf _ _ ht.calls _ _ hk
    obtain ⟨-, b, hb, hbc⟩ := (reserves_iff c o').1 hr
    obtain rfl := h.once k o' j o c hk' hj ((o'.mem_circuits c).2 (.inl ⟨b, hb, hbc⟩)) hm
    rw [show some o' = some o from hk'.symm.trans hj]

/-- The record after its displacement (R31). -/
def displacedRecord (s : State) (o : CallRecord) : CallRecord :=
  { o with state := .displaced, outbound := none, deadline := some s.guardDeadline }

/-- The displacement of the record that reserves a circuit, with the notice to its owner (R31). -/
theorem displace_eq (ht : s.TablesInv) (h : s.PoolInv) {c j : Nat} {o : CallRecord} (hj : s.call j = some o)
    (hm : c ∈ o.circuits) (hc : (s.circuit c).state = .reserved) :
    displace c s = (s.setCall j (some (displacedRecord s o))).raiseTo o.owner (.displaced j (s.gen j)) := by
  simp only [displace, reserverOf_eq ht h hj hm hc, hj]
  rfl

/-- After the displacement the circuit is in hand. -/
theorem displace_poolHand (ht : s.TablesInv) (h : s.PoolInv) {c : Nat} (hc : (s.circuit c).state = .reserved) :
    (displace c s).PoolHand [c] := by
  obtain ⟨j, o, hj, hm⟩ := h.held c ((held_iff _).2 (.inl hc))
  have hinv := h.calls j o hj
  obtain ⟨hst, ob, hob, rfl⟩ := (reserves_iff c o).1 (hinv.reserves hm hc)
  have hlift := ((poolHand_nil_iff s).2 h).lift hj
  rw [List.append_nil] at hlift
  have hcirc : o.circuits = ob.circuit :: (displacedRecord s o).circuits := by
    simp [CallRecord.circuits, displacedRecord, hob]
  have hnodup := hinv.circuits_nodup
  rw [hcirc, List.nodup_cons] at hnodup
  have hrec : (s.setCall j none).CallInv (displacedRecord s o) := by
    have hans := hinv.shape.answer
    rw [hst] at hans
    refine ⟨⟨hinv.shape.dest, by simp [displacedRecord], by simp [displacedRecord], ?_⟩, hnodup.2,
      (fun x hx => by cases hx), hinv.inbound⟩
    simpa [displacedRecord] using hans
  rw [displace_eq ht h hj hm hc]
  refine (hlift.place (L' := [ob.circuit]) (by simp) hrec (fun x => ?_) fun x hx => ?_).congr (fun _ => rfl)
    (fun _ => rfl) fun k => (setCall_setCall_call s j none _ k).symm
  · rw [hcirc, List.mem_cons, List.mem_singleton, or_comm]
  · rw [List.mem_singleton.1 hx]
    exact hnodup.1

theorem displace_cpl (c : Nat) (s : State) : (displace c s).cpl = s.cpl :=
  (displace_sameBut s c).cpl.resolve_left (by decide)

/-- A displacement makes no record live. -/
theorem displace_call_none (ht : s.TablesInv) (h : s.PoolInv) {c i : Nat} (hc : (s.circuit c).state = .reserved)
    (hi : s.call i = none) : (displace c s).call i = none := by
  obtain ⟨j, o, hj, hm⟩ := h.held c ((held_iff _).2 (.inl hc))
  rw [displace_eq ht h hj hm hc, State.raiseTo_call, State.setCall_call, if_neg]
  · exact hi
  · rintro rfl
    rw [hi] at hj
    cases hj

theorem routeInbound_poolInv (ht : s.TablesInv) (h : s.PoolInv) {inb : Option Nat} (hi : s.call i = none)
    (hd : d ≤ Config.lastDest) : (routeInbound p d cls inb i s).2.PoolInv := by
  have hp := (poolHand_nil_iff s).2 h
  unfold routeInbound
  split
  · exact routeWith_poolInv (plan := .originating) hp trivial hi hd
  split <;> rename_i hck
  · exact h
  · obtain ⟨r, hg, hh, hb, hst⟩ := checkInbound_ok ht hck
    exact routeWith_poolInv (plan := .take _ _) hp ⟨r, hg, hh, hst, hb⟩ hi hd
  · obtain ⟨r, hg, hh, -, hst⟩ := checkInbound_ok ht hck
    refine routeWith_poolInv (plan := .displaced _ _) (displace_poolHand ht h hst) ⟨r, ?_, hh⟩
      (displace_call_none ht h hst hi) hd
    rw [State.group, displace_cpl]
    exact hg

theorem routeCall_poolInv (ht : s.TablesInv) (hq : s.QueueInv) (h : s.PoolInv) (n : Nat) (inb : Option Nat) :
    (routeCall p d n inb s).2.PoolInv := by
  unfold routeCall
  split
  · exact h
  rename_i hd
  split
  · exact h
  split
  · exact h
  rename_i i hi
  rw [queueHead_eq] at hi
  exact routeInbound_poolInv ht h ((hq.free i).1 (List.mem_of_mem_head? hi)).2 (by omega)

end Route

/-! ### REROUTE -/

section Reroute

variable {s : State} {w : Winner} {x : Group} {i : Nat} {r : CallRecord}

theorem reroutedRecord_circuits (s : State) (r : CallRecord) (w : Winner) :
    (reroutedRecord s r w).circuits = w.circuit :: r.inbound.toList.map fun b => b.circuit := by
  cases h : r.inbound <;> simp [CallRecord.circuits, reroutedRecord, outboundOf, relockInbound, h]

theorem completeReroute_poolInv (h : s.PoolInv) (hi : s.call i = some r) (hst : r.state = .displaced)
    (hw : s.Wins (r.inbound.map fun b => b.group) w x) (gen : Nat) : (completeReroute i gen r w s).2.PoolInv := by
  have hinv := h.calls i r hi
  have hlift := ((poolHand_nil_iff s).2 h).lift hi
  rw [List.append_nil] at hlift
  have hg : (s.setCall i none).group w.group = some x := hw.group
  have hhunt := hlift.outboundHunt hg hw.head hw.not_blocked
  have hfree := hlift.head_not_mem hg hw.head
  have hcirc : r.circuits = r.inbound.toList.map fun b => b.circuit := by
    simp [CallRecord.circuits, hinv.shape.outbound.2 hst]
  have hrec : (outboundHunt w.group w.circuit (s.setCall i none)).CallInv (reroutedRecord s r w) := by
    have hans := hinv.shape.answer
    rw [hst] at hans
    refine ⟨⟨hinv.shape.dest, by simp [reroutedRecord], by simp [reroutedRecord], ?_⟩, ?_, fun o ho => ?_,
      fun b hb => ?_⟩
    · simpa [reroutedRecord] using hans
    · rw [reroutedRecord_circuits, ← hcirc, List.nodup_cons]
      exact ⟨hfree, hinv.circuits_nodup⟩
    · obtain rfl := Option.some.inj ho
      exact hw.outbound_ok r.cls hlift hg rfl
    · obtain ⟨b', hb', rfl⟩ := Option.map_eq_some_iff.1 (show r.inbound.map (relockInbound s) = some b from hb)
      obtain ⟨h1, h2, h3⟩ := hinv.inbound b' hb'
      have hrange : ∀ g, (outboundHunt w.group w.circuit (s.setCall i none)).rangeOf g = s.rangeOf g := by simp
      have hmem : b'.circuit ∈ r.circuits := (r.mem_circuits _).2 (.inr ⟨b', hb', rfl⟩)
      refine ⟨(holds_congr (hrange _) _).2 h1, ?_, ?_⟩
      · show ((outboundHunt w.group w.circuit (s.setCall i none)).circuit b'.circuit).state = .busy
        have hne : b'.circuit ≠ w.circuit := fun he => hfree (he ▸ hmem)
        rw [outboundHunt_circuit _ _ _ _ hg, if_neg hne]
        exact h2
      · rw [carrierOf_of_rangeOf (hrange _)]
        simpa [relockInbound] using h3
  refine (hhunt.place_all (i := i) (by simp) hrec fun c => ?_).congr (fun g => ?_) (fun c => ?_) fun j => ?_
  · rw [reroutedRecord_circuits, ← hcirc]
  · rw [outboundHunt_setCall]; rfl
  · rw [outboundHunt_setCall]; rfl
  · rw [outboundHunt_setCall]; exact (setCall_setCall_call _ i none _ j).symm

theorem rerouteCall_poolInv (h : s.PoolInv) (p : PortId) (index gen : Nat) : (rerouteCall p index gen s).2.PoolInv := by
  unfold rerouteCall
  split
  · exact h
  rename_i r hf
  obtain ⟨-, hi, -, -⟩ := findOwnCall_ok hf
  split
  case h_1 hst =>
    unfold rerouteRecord
    split <;> rename_i he <;> obtain ⟨records, rfl⟩ := selectRoute_state he
    · exact h.of_blocks rfl rfl
    · obtain ⟨x, hw⟩ := selectRoute_wins he
      refine completeReroute_poolInv (s := { s with cmn := { s.cmn with records := records } }) ?_ hi hst (hw.counted _) gen
      exact h.of_blocks rfl rfl
  all_goals exact h

end Reroute

/-! ### Every step -/

/-- The pool and the records of a part just reset are empty, and agree. -/
theorem resetRoles_poolInv (r0 r1 r2 r3 : Role) : (State.resetRoles r0 r1 r2 r3).PoolInv :=
  ⟨fun _ _ h => (by cases h), fun _ _ _ _ _ h => (by cases h), fun _ h => absurd rfl h, fun _ h => (by cases h),
    fun _ _ h => (by cases h), fun _ h => (by cases h), fun _ _ _ _ _ h => (by cases h)⟩

/-- A request row keeps the agreement of pool and records where its block's part does. -/
theorem serve_poolInv {r : Requester} {c : Instr} {f : State → Reply × State} {s t : State} (hs : s.PoolInv)
    (hf : (f s).2.PoolInv) (h : serve r c f s = .next t) : t.PoolInv :=
  serve_keeps (P := State.PoolInv) (fun u a hu => hu.of_blocks (by simp) (by simp)) hs hf h

/-- A command that touches neither CPL nor CRT keeps their agreement. -/
theorem exec_poolInv_of_untouched {c : Instr} {s t : State} (hs : s.PoolInv) (h : exec c s = .next t)
    (h1 : Block.cpl ∉ touches c) (h2 : Block.crt ∉ touches c) : t.PoolInv :=
  hs.of_blocks ((exec_sameBut h).cpl.resolve_left h1) (by rw [(exec_sameBut h).crt.resolve_left h2])

theorem exec_poolInv {c : Instr} {s t : State} (ht : s.TablesInv) (hq : s.QueueInv) (hs : s.PoolInv)
    (h : exec c s = .next t) : t.PoolInv := by
  cases c with
  | powerOnReset pins => 
    obtain rfl := next_inj h
    exact (resetRoles_poolInv (roleOfPins pins.p0) (roleOfPins pins.p1) (roleOfPins pins.p2)
      (roleOfPins pins.p3)).of_blocks rfl rfl
  | route r d n inb => exact serve_poolInv hs (routeCall_poolInv ht hq hs n inb) h
  | confirm r i g => exact serve_poolInv hs (confirmCall_poolInv hs _ i g) h
  | answer r i g => exact serve_poolInv hs (answerCall_poolInv hs _ i g) h
  | release r i g => exact serve_poolInv hs (releaseCall_poolInv hs _ i g) h
  | reroute r i g => exact serve_poolInv hs (rerouteCall_poolInv hs _ i g) h
  | guardExpiry i => exact execGuardExpiry_poolInv hs h
  | setGuard r n => exact serve_poolInv hs (hs.of_blocks rfl rfl) h
  | adoptPort r f t => exact serve_poolInv hs (adoptPort_poolInv hs f t) h
  | exchangeRestart r => exact serve_poolInv hs (exchangeRestart_poolInv ht hs) h
  | defineGroupDefine r g a => exact serve_poolInv hs (defineGroup_poolInv ht hs g a) h
  | defineGroupRemove r g f => exact serve_poolInv hs (removeGroup_poolInv hs g f) h
  | setGroupStateBlock r g => exact serve_poolInv hs (blockGroup_poolInv hs g) h
  | setGroupStateUnblock r g f => exact serve_poolInv hs (unblockGroup_poolInv hs g f) h
  | setReserve r g n => exact serve_poolInv hs (setReserve_poolInv hs g n) h
  | circuitMaintOut r c => exact serve_poolInv hs (circuitOut_poolInv ht hs c) h
  | circuitMaintReturn r c f => exact serve_poolInv hs (circuitReturn_poolInv ht hs c f) h
  | _ => exact exec_poolInv_of_untouched hs h (by simp [touches]) (by simp [touches])

/-- Settles O58: the command at the front keeps the agreement, whatever waits behind it; each command lifts records, moves circuits in step with their groups, and places records. -/
theorem stepsKeepPoolAndCallsInAgreement : Obligations.StepsKeepPoolAndCallsInAgreement := by
  intro s t ht hq hs h
  unfold step at h
  split at h
  · exact next_inj h ▸ hs
  · rename_i c rest _
    refine exec_poolInv (s := { s with pending := rest }) ?_ ?_ (hs.of_blocks rfl rfl) h
    · exact ⟨ht.groups, ht.circuits, ht.calls, ht.gens, ht.dests, ht.orders, ht.sets, ht.congestion, ht.inForce,
        ht.staged, ht.agreements, ht.tariffs, ht.pendingTariffs, ht.bankA, ht.bankB⟩
    · exact ⟨hq.nodup, hq.free, hq.gens⟩

end Sys2Proof.Machine
end

section
/-! SUPPORT. The requests that read (R23, R27, R39, R55, R96, R97, R109, R122, R143, R153, R184): what each refuses, and what each reports. -/

namespace Sys2Proof.Machine

open Sys2Proof

/-! ### Replies of reads -/

/-- A read is answered DONE, ADJUSTED, or by a refusal without a body. -/
def Reply.OfRead (a : Reply) : Prop :=
  a.result = .done ∨ a.result = .adjusted
    ∨ (a.body = [] ∧ (a.result = .badValue ∨ a.result = .wrongState ∨ a.result = .staleHandle))

theorem ofRead_done (b : List Byte) : Reply.OfRead ⟨.done, b⟩ := .inl rfl
theorem ofRead_doneOr (x : Bool) (b : List Byte) : Reply.OfRead ⟨doneOr x, b⟩ := by
  cases x
  · exact .inl rfl
  · exact .inr (.inl rfl)
theorem ofRead_badValue : Reply.OfRead (Reply.plain .badValue) := .inr (.inr ⟨rfl, .inl rfl⟩)
theorem ofRead_wrongState : Reply.OfRead (Reply.plain .wrongState) := .inr (.inr ⟨rfl, .inr (.inl rfl)⟩)
theorem ofRead_staleHandle : Reply.OfRead (Reply.plain .staleHandle) := .inr (.inr ⟨rfl, .inr (.inr rfl)⟩)

section Replies

variable (s : State)

theorem readGroupSummary_ofRead (g f : Nat) : (readGroupSummary g f s).1.OfRead := by
  unfold readGroupSummary
  split
  · exact ofRead_badValue
  · exact ofRead_done _

theorem readGroupCircuit_ofRead (g a n : Nat) : (readGroupCircuit g a n s).1.OfRead := by
  unfold readGroupCircuit
  split
  · exact ofRead_badValue
  split
  · exact ofRead_wrongState
  split
  · exact ofRead_badValue
  · exact ofRead_doneOr _ _

theorem readGroupFreeList_ofRead (g a n : Nat) : (readGroupFreeList g a n s).1.OfRead := by
  unfold readGroupFreeList
  split
  · exact ofRead_badValue
  split
  · exact ofRead_wrongState
  · exact ofRead_doneOr _ _

theorem readDest_ofRead (d : Nat) : (readDest d s).1.OfRead := by
  unfold readDest
  split
  · exact ofRead_badValue
  · exact ofRead_done _

theorem readRouteSet_ofRead (f n : Nat) : (readRouteSet f n s).1.OfRead := by
  unfold readRouteSet
  split
  · exact ofRead_badValue
  · exact ofRead_done _

theorem readProfile_ofRead (n : Nat) : (readProfile n s).1.OfRead := by
  unfold readProfile
  split
  · exact ofRead_badValue
  · exact ofRead_done _

theorem readPeriod_ofRead (f : Nat) : (readPeriod f s).1.OfRead := by
  unfold readPeriod
  split
  · exact ofRead_badValue
  · exact ofRead_done _

theorem readAgreement_ofRead (a n : Nat) : (readAgreement a n s).1.OfRead := by
  unfold readAgreement
  split
  · exact ofRead_badValue
  · exact ofRead_done _

theorem readTariffClass_ofRead (k c n : Nat) : (readTariffClass k c n s).1.OfRead := by
  unfold readTariffClass
  split
  · exact ofRead_badValue
  split
  · exact ofRead_badValue
  · exact ofRead_done _
  · exact ofRead_done _

theorem readTariffBand_ofRead (f k : Nat) : (readTariffBand f k s).1.OfRead := by
  unfold readTariffBand
  split
  · exact ofRead_badValue
  split
  · exact ofRead_badValue
  · exact ofRead_done _
  · exact ofRead_done _

theorem readBank_ofRead (k a n : Nat) : (readBank k a n s).1.OfRead := by
  unfold readBank
  split
  · exact ofRead_badValue
  split
  · exact ofRead_badValue
  · exact ofRead_doneOr _ _

/-- The refusals of checks 1 and 2 of a handle (R27). -/
theorem findCall_error {i g : Nat} {e : Result} (h : findCall s i g = .error e) : e = .badValue ∨ e = .staleHandle := by
  unfold findCall at h
  split at h
  · exact .inl (Except.error.inj h).symm
  split at h
  · exact .inr (Except.error.inj h).symm
  split at h
  · cases h
  · exact .inr (Except.error.inj h).symm

theorem queryCall_ofRead (i g : Nat) : (queryCall i g s).1.OfRead := by
  unfold queryCall
  split
  · rename_i e he
    rcases findCall_error s he with rfl | rfl
    · exact ofRead_badValue
    · exact ofRead_staleHandle
  · exact ofRead_done _

end Replies

/-- A request row whose block leaves the state as it is delivers its reply and no more. -/
theorem serve_read {r : Requester} {c : Instr} {s : State} {f : State → Reply × State}
    (h : s.inService r c = true) (hs : (f s).2 = s) : serve r c f s = .next (s.deliver r c (f s).1) := by
  rw [serve_of_inService h, hs]

/-- A read leaves every block, and its reply is a read's. -/
theorem serve_ofRead {r : Requester} {c : Instr} {s : State} {f : State → Reply × State}
    (h : s.inService r c = true) (hs : (f s).2 = s) (ha : (f s).1.OfRead) :
    ∃ a, serve r c f s = .next (s.deliver r c a) ∧ a.OfRead :=
  ⟨_, serve_read h hs, ha⟩

/-! ### Refusals -/

section Refusals

variable {s : State}

theorem findCall_badValue {i g : Nat} (h : 16384 ≤ i) : findCall s i g = .error .badValue := if_pos h

theorem findCall_staleHandle {i g : Nat} (h : i < 16384) (hs : s.call i = none ∨ s.gen i ≠ g) :
    findCall s i g = .error .staleHandle := by
  have hi : ¬ Config.callRecords ≤ i := Nat.not_le.2 h
  rw [findCall, if_neg hi]
  rcases hs with hs | hs
  · simp only [hs]
  · split
    · rfl
    · rw [if_neg hs]

theorem findCall_eq_ok {i g : Nat} {x : CallRecord} (h : i < 16384) (hx : s.call i = some x) (hg : s.gen i = g) :
    findCall s i g = .ok x := by
  have hi : ¬ Config.callRecords ≤ i := Nat.not_le.2 h
  simp only [findCall, if_neg hi, hx, if_pos hg]

theorem queryCall_error {i g : Nat} {e : Result} (h : findCall s i g = .error e) : queryCall i g s = (⟨e, []⟩, s) := by
  simp only [queryCall, h, Reply.plain]

theorem flagOf_eq_none {n : Nat} (h : 1 < n) : flagOf n = none := by
  unfold flagOf
  split
  · omega
  · omega
  · rfl

theorem bankOf_eq_none {n : Nat} (h : 1 < n) : bankOf n = none := by
  unfold bankOf
  split
  · omega
  · omega
  · rfl

/-- A carrier number is refused where it is 0 or above 63 (R101). -/
theorem isCarrier_iff (c : Nat) : isCarrier c = true ↔ 1 ≤ c ∧ c ≤ 63 := by
  simp only [isCarrier, Bool.and_eq_true, decide_eq_true_eq]
  exact Iff.rfl

theorem isCarrier_eq_false {c : Nat} (h : c = 0 ∨ 63 < c) : isCarrier c = false := by
  rw [Bool.eq_false_iff, ne_eq, isCarrier_iff]
  omega

theorem readGroupCircuit_wrongState {g a n : Nat} (h : g ≤ 255) (hg : s.group g = none) :
    readGroupCircuit g a n s = (⟨.wrongState, []⟩, s) := by
  have hi : ¬ Config.lastGroup < g := Nat.not_lt.2 h
  simp only [readGroupCircuit, if_neg hi, hg, Reply.plain]

theorem readGroupCircuit_badStart {g a n : Nat} {x : Group} (h : g ≤ 255) (hg : s.group g = some x)
    (ha : a < x.first ∨ x.first + x.count ≤ a) : readGroupCircuit g a n s = (⟨.badValue, []⟩, s) := by
  have hi : ¬ Config.lastGroup < g := Nat.not_lt.2 h
  have hh : groupHolds a x = false := by
    rw [Bool.eq_false_iff, ne_eq, groupHolds_iff]
    omega
  simp only [readGroupCircuit, if_neg hi, hg, hh, Bool.not_false, if_true, Reply.plain]

theorem readGroupFreeList_wrongState {g a n : Nat} (h : g ≤ 255) (hg : s.group g = none) :
    readGroupFreeList g a n s = (⟨.wrongState, []⟩, s) := by
  have hi : ¬ Config.lastGroup < g := Nat.not_lt.2 h
  simp only [readGroupFreeList, if_neg hi, hg, Reply.plain]

theorem readAgreement_badValue {a n : Nat} (h : a = 0 ∨ 63 < a ∨ n = 0 ∨ 8 < n) :
    readAgreement a n s = (⟨.badValue, []⟩, s) := by
  refine if_pos ?_
  rcases h with h | h | h | h
  · exact .inl (by rw [isCarrier_eq_false (.inl h)]; rfl)
  · exact .inl (by rw [isCarrier_eq_false (.inr h)]; rfl)
  · exact .inr (.inl h)
  · exact .inr (.inr h)

theorem readTariffClass_badValue {k a n : Nat} (h : 1 < k ∨ a = 0 ∨ 63 < a ∨ 3 < n) :
    readTariffClass k a n s = (⟨.badValue, []⟩, s) := by
  unfold readTariffClass
  split
  · rfl
  · rename_i hn
    have hk : 1 < k := by
      simp only [Bool.not_eq_eq_eq_not, Bool.not_true, not_or, Bool.not_eq_false] at hn
      have := (isCarrier_iff a).1 hn.1
      omega
    simp only [flagOf_eq_none hk, Reply.plain]

theorem readTariffBand_badValue {f k : Nat} (h : f ≠ 1 ∨ 1 < k) : readTariffBand f k s = (⟨.badValue, []⟩, s) := by
  unfold readTariffBand
  split
  · rfl
  · simp only [flagOf_eq_none (h.resolve_left (by assumption)), Reply.plain]

theorem readBank_badValue {b a n : Nat} (h : 1 < b ∨ 63 < a) : readBank b a n s = (⟨.badValue, []⟩, s) := by
  unfold readBank
  split
  · rfl
  · rename_i k hk
    refine if_pos (h.resolve_left fun hb => ?_)
    rw [bankOf_eq_none hb] at hk
    cases hk

end Refusals

/-- Settles O14: every read's part leaves the state as it is, and each refusal follows the order of its checks. -/
theorem readsChangeNothing : Obligations.ReadsChangeNothing := by
  refine ⟨fun c r s h hc => ?_, fun c r s e h hc => ?_⟩
  · rcases hc with ⟨g, n, rfl⟩ | ⟨g, a, n, rfl⟩ | ⟨g, a, n, rfl⟩ | ⟨d, rfl⟩ | ⟨f, n, rfl⟩ | ⟨n, rfl⟩ | ⟨f, rfl⟩
      | ⟨a, n, rfl⟩ | ⟨k, a, n, rfl⟩ | ⟨f, k, rfl⟩ | ⟨b, a, n, rfl⟩ | rfl | ⟨i, g, rfl⟩ | rfl
    · exact serve_ofRead h (readGroupSummary_state s _ _) (readGroupSummary_ofRead s _ _)
    · exact serve_ofRead h (readGroupCircuit_state s _ _ _) (readGroupCircuit_ofRead s _ _ _)
    · exact serve_ofRead h (readGroupFreeList_state s _ _ _) (readGroupFreeList_ofRead s _ _ _)
    · exact serve_ofRead h (readDest_state s _) (readDest_ofRead s _)
    · exact serve_ofRead h (readRouteSet_state s _ _) (readRouteSet_ofRead s _ _)
    · exact serve_ofRead h (readProfile_state s _) (readProfile_ofRead s _)
    · exact serve_ofRead h (readPeriod_state s _) (readPeriod_ofRead s _)
    · exact serve_ofRead h (readAgreement_state s _ _) (readAgreement_ofRead s _ _)
    · exact serve_ofRead h (readTariffClass_state s _ _ _) (readTariffClass_ofRead s _ _ _)
    · exact serve_ofRead h (readTariffBand_state s _ _) (readTariffBand_ofRead s _ _)
    · exact serve_ofRead h (readBank_state s _ _ _) (readBank_ofRead s _ _ _)
    · exact serve_ofRead h rfl (ofRead_done _)
    · exact serve_ofRead h (queryCall_state s _ _) (queryCall_ofRead s _ _)
    · exact serve_ofRead h rfl (ofRead_done _)
  · rcases hc with ⟨g, f, rfl, hb, rfl⟩ | ⟨g, a, n, rfl, hb⟩ | ⟨g, a, n, rfl, hb⟩ | ⟨d, rfl, hb, rfl⟩
      | ⟨f, n, rfl, hb, rfl⟩ | ⟨n, rfl, hb, rfl⟩ | ⟨f, rfl, hb, rfl⟩ | ⟨a, n, rfl, hb, rfl⟩ | ⟨k, a, n, rfl, hb, rfl⟩
      | ⟨f, k, rfl, hb, rfl⟩ | ⟨b, a, n, rfl, hb, rfl⟩ | ⟨i, g, rfl, hb⟩
    · exact serve_eq h _ (if_pos hb)
    · rcases hb with ⟨hb, rfl⟩ | ⟨hg, hx, rfl⟩ | ⟨hg, rfl, x, hx, ha⟩
      · exact serve_eq h _ (if_pos hb)
      · exact serve_eq h _ (readGroupCircuit_wrongState hg hx)
      · exact serve_eq h _ (readGroupCircuit_badStart hg hx ha)
    · rcases hb with ⟨hb, rfl⟩ | ⟨hg, hx, rfl⟩
      · exact serve_eq h _ (if_pos hb)
      · exact serve_eq h _ (readGroupFreeList_wrongState hg hx)
    · exact serve_eq h _ (if_pos hb)
    · exact serve_eq h _ (if_pos hb)
    · exact serve_eq h _ (if_pos hb)
    · exact serve_eq h _ (if_pos hb)
    · exact serve_eq h _ (readAgreement_badValue hb)
    · exact serve_eq h _ (readTariffClass_badValue hb)
    · exact serve_eq h _ (readTariffBand_badValue hb)
    · exact serve_eq h _ (readBank_badValue hb)
    · rcases hb with ⟨hb, rfl⟩ | ⟨hi, hx, rfl⟩
      · exact serve_eq h _ (queryCall_error (findCall_badValue hb))
      · exact serve_eq h _ (queryCall_error (findCall_staleHandle hi hx))

end Sys2Proof.Machine
end

section
/-! SUPPORT. What the reads report of the tables as they stand. -/

namespace Sys2Proof.Machine

open Sys2Proof

/-! ### Counts and runs -/

theorem take_range' (a n k : Nat) : (List.range' a n).take k = List.range' a (min k n) := by
  rcases Nat.le_total n k with h | h
  · rw [List.take_range'_of_length_le h, Nat.min_eq_right h]
  · rw [List.take_range'_of_length_ge h, Nat.min_eq_left h]

theorem clamp_one (hi n : Nat) (h : 1 ≤ hi) : clamp 1 hi n = if n = 0 then 1 else if hi < n then hi else n := by
  unfold clamp
  split
  · omega
  · split <;> omega

theorem doneOr_ne (m n : Nat) : doneOr (decide (m ≠ n)) = if m = n then .done else .adjusted := by
  by_cases h : m = n <;> simp [doneOr, h]

/-- The listed circuits of a group that satisfy `f` are those of its range, where `f` fails of an unlisted circuit. -/
theorem countCircuits_eq {s : State} (ht : s.TablesInv) (x : Group) (f : Circuit → Bool)
    (hf : f Circuit.idle = false) :
    countCircuits s x f = (circuitRange x.first x.count).countP fun c => f (s.circuit c) := by
  obtain ⟨hp, -⟩ := (Table.wf_iff _ _ _).1 ht.circuits
  have hkeys : (s.cpl.circuits.map fun e => e.1).Nodup := by
    rw [List.nodup_iff_pairwise_ne, List.pairwise_map]
    exact hp.imp fun h => Nat.ne_of_lt h
  rw [countCircuits, List.countP_eq_length_filter, ← List.length_map (f := fun e : Nat × Circuit => e.1)]
  refine ((List.perm_ext_iff_of_nodup ?_ ((circuitRange_nodup _ _).filter _)).2 fun c => ?_).length_eq
  · exact hkeys.sublist (List.filter_sublist.map _)
  · simp only [List.mem_map, List.mem_filter, Bool.and_eq_true, mem_circuitRange]
    constructor
    · rintro ⟨⟨c', v⟩, ⟨hm, hh, hv⟩, rfl⟩
      exact ⟨hh, by rwa [State.circuit, Table.get_of_mem _ _ hp _ _ hm]⟩
    · rintro ⟨hh, hv⟩
      refine ⟨(c, s.circuit c), ⟨circuit_listed s c fun hi => ?_, hh, hv⟩, rfl⟩
      rw [hi, hf] at hv
      cases hv

/-! ### What each read answers in its range -/

section Reports

variable {s : State}

theorem readGroupSummary_eq {g : Nat} (h : g ≤ 255) : readGroupSummary g 0 s = (⟨.done, groupSummary s g⟩, s) :=
  if_neg (by rintro (h' | h'); exacts [Nat.not_lt.2 h h', h' rfl])

theorem readGroupCircuit_eq {g a n : Nat} {x : Group} (h : g ≤ 255) (hg : s.group g = some x) (h1 : x.first ≤ a)
    (h2 : a < x.first + x.count) : readGroupCircuit g a n s =
      (⟨doneOr (decide (clamp 1 32 n ≠ n)), listBytes (circuitBytes s)
        (List.range' a (min (clamp 1 32 n) (x.first + x.count - a)))⟩, s) := by
  have hi : ¬ Config.lastGroup < g := Nat.not_lt.2 h
  have hh : groupHolds a x = true := (groupHolds_iff a x).2 ⟨h1, h2⟩
  simp only [readGroupCircuit, if_neg hi, hg, hh, Bool.not_true, Bool.false_eq_true, if_false, circuitRange, take_range']

theorem readGroupFreeList_eq {g a n : Nat} {x : Group} (h : g ≤ 255) (hg : s.group g = some x) :
    readGroupFreeList g a n s = (⟨doneOr (decide (clamp 1 32 n ≠ n)),
      listBytes (beBytes 2) ((x.freeList.drop a).take (clamp 1 32 n))⟩, s) := by
  have hi : ¬ Config.lastGroup < g := Nat.not_lt.2 h
  simp only [readGroupFreeList, if_neg hi, hg]

theorem queryCall_eq {i g : Nat} {x : CallRecord} (h : i < 16384) (hx : s.call i = some x) (hg : s.gen i = g) :
    queryCall i g s = (⟨.done, callBytes i g x⟩, s) := by
  simp only [queryCall, findCall_eq_ok h hx hg]

theorem readRouteSet_eq {n : Nat} (h : n ≤ 511) :
    readRouteSet 1 n s = (⟨.done, listBytes (beBytes 1) (s.routeSet n)⟩, s) :=
  if_neg (by rintro (h' | h'); exacts [h' rfl, Nat.not_lt.2 h h'])

theorem readAgreement_eq {a n : Nat} (h1 : 1 ≤ a) (h2 : a ≤ 63) (h3 : 1 ≤ n) (h4 : n ≤ 8) :
    readAgreement a n s = (⟨.done, listBytes (fun c => beBytes 1 c ++ agreementBytes (s.agreement c))
      (List.range' a (min n (64 - a)))⟩, s) := by
  have hc : isCarrier a = true := (isCarrier_iff a).2 ⟨h1, h2⟩
  rw [readAgreement, if_neg (by simp only [hc, Bool.not_true, Bool.false_eq_true, false_or]; omega), reportedCarriers,
    take_range']
  rfl

theorem readTariffClass_eq {k c n : Nat} (h1 : 1 ≤ c) (h2 : c ≤ 63) (h3 : n ≤ 3) (h4 : k ≤ 1) :
    readTariffClass k c n s = (⟨.done, tariffBytes (if k = 0 then s.tariff c n else s.pendingTariff c n)⟩, s) := by
  have hc : isCarrier c = true := (isCarrier_iff c).2 ⟨h1, h2⟩
  rw [readTariffClass, if_neg (by simp only [hc, Bool.not_true, Bool.false_eq_true, false_or]; omega)]
  obtain rfl | rfl : k = 0 ∨ k = 1 := by omega
  · rfl
  · rfl

theorem readTariffBand_eq {k : Nat} (h : k ≤ 1) :
    readTariffBand 1 k s = (⟨.done, bandBytes (if k = 0 then s.hru.bands else s.hru.pendingBands)⟩, s) := by
  obtain rfl | rfl : k = 0 ∨ k = 1 := by omega
  · rfl
  · rfl

@[simp] theorem bankOf_bankCode (k : BankId) : bankOf (bankCode k) = some k := by cases k <;> rfl

theorem readBank_eq (k : BankId) {a : Nat} (n : Nat) (h : a ≤ 63) : readBank (bankCode k) a n s =
    (⟨doneOr (decide (clamp 1 8 n ≠ n)), bankBytes s k a (clamp 1 8 n)⟩, s) := by
  have hi : ¬ Config.lastCarrier < a := Nat.not_lt.2 h
  simp only [readBank, bankOf_bankCode, if_neg hi]

end Reports

/-- Settles O16: each read's part reports what its table reads as; the counts of a summary are those of its range. -/
theorem readsReportWhatStands : Obligations.ReadsReportWhatStands := by
  refine ⟨fun r g s x h hg hx => ?_, fun r g s h hg hx => ?_, fun r g a n s x h hg hx h1 h2 m hm => ?_,
    fun r g a n s x h hg hx m hm => ?_, fun r i g s x h hi hx hg => serve_eq h _ (queryCall_eq hi hx hg),
    fun r d s h hd => serve_eq h _ (if_neg (Nat.not_lt.2 hd)), fun r n s h hn => serve_eq h _ (readRouteSet_eq hn),
    fun r n s h hn => serve_eq h _ (if_neg (Nat.not_lt.2 hn)), fun r s h => serve_eq h _ (if_neg (not_not.2 rfl)),
    fun r a n s h h1 h2 h3 h4 => serve_eq h _ (readAgreement_eq h1 h2 h3 h4),
    fun r k c n s h h1 h2 h3 h4 => serve_eq h _ (readTariffClass_eq h1 h2 h3 h4),
    fun r k s h hk => serve_eq h _ (readTariffBand_eq hk), fun r k a n s h ha m records hm hrec => ?_⟩
  · refine ⟨_, _, (serve_eq h _ (readGroupSummary_eq hg)).trans ?_, fun ht =>
      ⟨countCircuits_eq ht x (fun v => decide (v.state = .maint)) rfl, countCircuits_eq ht x (fun v => v.mark) rfl⟩⟩
    simp only [groupSummary, hx]
  · refine (serve_eq h _ (readGroupSummary_eq hg)).trans ?_
    simp only [groupSummary, hx]
    rfl
  · rw [← clamp_one 32 n (by omega)] at hm
    subst hm
    refine (serve_eq h _ (readGroupCircuit_eq hg hx h1 h2)).trans ?_
    rw [doneOr_ne]
  · rw [← clamp_one 32 n (by omega)] at hm
    subst hm
    refine (serve_eq h _ (readGroupFreeList_eq hg hx)).trans ?_
    rw [doneOr_ne]
  · rw [← clamp_one 8 n (by omega)] at hm
    have hrun : (List.range' a (Config.lastCarrier + 1 - a)).take (clamp 1 8 n) = List.range' a m := by
      rw [take_range', hm]
      rfl
    have hres : doneOr (decide (clamp 1 8 n ≠ n)) = if n = 0 ∨ 8 < n then .adjusted else .done := by
      rw [doneOr_ne]
      by_cases hn : n = 0 ∨ 8 < n
      · rw [if_pos hn, if_neg (by unfold clamp; omega)]
      · rw [if_neg hn, if_pos (by unfold clamp; omega)]
    refine (serve_eq h _ (readBank_eq k n ha)).trans ?_
    simp only [bankBytes, hrun, ← hrec, hres]
    rw [hrec, List.length_map, List.length_range']
    rfl

end Sys2Proof.Machine
end

section
/-! SUPPORT. The requests on groups and circuits: DEFINE_GROUP (R8 to R10), SET_GROUP_STATE and SET_RESERVE (R11, R12, R14), CIRCUIT_MAINT (R15, R16). -/

namespace Sys2Proof.Machine

open Sys2Proof

/-! ### DEFINE_GROUP -/

theorem directionOf_directionCode (d : Direction) : directionOf (directionCode d) = some d := by cases d <;> rfl
theorem glareOf_glareCode (l : GlareRule) : glareOf (glareCode l) = some l := by cases l <;> rfl

theorem directionOf_some_iff (n : Nat) : (∃ d, directionOf n = some d) ↔ n ≤ 2 := by
  rcases n with _ | _ | _ | n <;> simp [directionOf]

theorem glareOf_some_iff (n : Nat) : (∃ l, glareOf n = some l) ↔ n ≤ 1 := by
  rcases n with _ | _ | n <;> simp [glareOf]

/-- What a define form must keep to for its structural checks to pass (R8). -/
def ValidDefinition (a : GroupArg) : Prop :=
  1 ≤ a.count ∧ a.count ≤ 1024 ∧ a.first + a.count ≤ 16384 ∧ a.carrier ≤ 63 ∧ a.profile ≤ 7 ∧ a.direction ≤ 2
    ∧ a.glare ≤ 1 ∧ ∀ c ∈ a.maint, a.first ≤ c ∧ c < a.first + a.count

theorem validDefinition_iff (a : GroupArg) : ValidDefinition a ↔ ∃ d l, groupStructure a = some (d, l) := by
  simp only [groupStructure_some_iff, ValidDefinition, ← directionOf_some_iff, ← glareOf_some_iff]
  constructor
  · rintro ⟨h1, h2, h3, h4, h5, ⟨d, hd⟩, ⟨l, hl⟩, h6⟩
    exact ⟨d, l, ⟨h1, h2, h3, h4, h5, h6⟩, hd, hl⟩
  · rintro ⟨d, l, ⟨h1, h2, h3, h4, h5, h6⟩, hd, hl⟩
    exact ⟨h1, h2, h3, h4, h5, ⟨d, hd⟩, ⟨l, hl⟩, h6⟩

/-- A new range meets another group's exactly where some circuit of that group lies in it (R8). -/
theorem overlaps_eq_false_iff_apart {s : State} (ht : s.TablesInv) (hp : s.PoolInv) (g : Nat) {a : GroupArg}
    (ha : 1 ≤ a.count) : overlaps s g a = false ↔ ∀ g' x c, g' ≠ g → s.group g' = some x → groupHolds c x = true →
      c < a.first ∨ a.first + a.count ≤ c := by
  rw [overlaps_eq_false_iff ht]
  constructor
  · intro h g' x c hg hx hc
    rw [groupHolds_iff] at hc
    have := h g' x hg hx
    omega
  · intro h g' x hg hx ⟨h1, h2⟩
    have hcount := (hp.groups g' x hx).range.count
    have := h g' x (max a.first x.first) hg hx ((groupHolds_iff _ _).2 (by omega))
    omega

section Define

variable {s : State} {g : Nat} {a : GroupArg}

theorem defineGroup_badValue (h : ¬ (g ≤ 255 ∧ ValidDefinition a)) : defineGroup g a s = (⟨.badValue, []⟩, s) := by
  unfold defineGroup
  split
  · rfl
  · rename_i hg
    have hnone : groupStructure a = none := by
      cases hs : groupStructure a with
      | none => rfl
      | some v => exact absurd ⟨Nat.not_lt.1 hg, (validDefinition_iff a).2 ⟨v.1, v.2, hs⟩⟩ h
    simp only [hnone, Reply.plain]

theorem defineGroup_groupInUse (hg : g ≤ 255) (ha : ValidDefinition a)
    (hf : ¬ ∀ x, s.group g = some x → x.state = .blocked ∧ x.busy = 0) :
    defineGroup g a s = (⟨.groupInUse, []⟩, s) := by
  have hi : ¬ Config.lastGroup < g := Nat.not_lt.2 hg
  obtain ⟨d, l, hs⟩ := (validDefinition_iff a).1 ha
  have hm : mayRedefine (s.group g) = false := Bool.eq_false_iff.2 fun h => hf ((mayRedefine_iff _).1 h)
  simp only [defineGroup, if_neg hi, hs, hm, Bool.not_false, if_true, Reply.plain]

theorem defineGroup_overlap (hg : g ≤ 255) (ha : ValidDefinition a)
    (hf : ∀ x, s.group g = some x → x.state = .blocked ∧ x.busy = 0) (ho : overlaps s g a = true) :
    defineGroup g a s = (⟨.overlap, []⟩, s) := by
  have hi : ¬ Config.lastGroup < g := Nat.not_lt.2 hg
  obtain ⟨d, l, hs⟩ := (validDefinition_iff a).1 ha
  simp only [defineGroup, if_neg hi, hs, (mayRedefine_iff _).2 hf, ho, Bool.not_true, Bool.false_eq_true, if_false,
    if_true, Reply.plain]

theorem defineGroup_done {d : Direction} {l : GlareRule} (hg : g ≤ 255) (ha : groupStructure a = some (d, l))
    (hf : ∀ x, s.group g = some x → x.state = .blocked ∧ x.busy = 0) (ho : overlaps s g a = false) :
    defineGroup g a s = (⟨if a.count < a.reserve then .adjusted else .done, []⟩,
      rewriteGroup g (some (definedGroup a d l)) (definedCircuits s.cpl.circuits (s.group g) a) s) := by
  have hi : ¬ Config.lastGroup < g := Nat.not_lt.2 hg
  simp only [defineGroup, if_neg hi, ha, (mayRedefine_iff _).2 hf, ho, Bool.not_true, Bool.false_eq_true, if_false,
    Reply.plain, doneOr, decide_eq_true_eq]

theorem removeGroup_done (hg : g ≤ 255) (hf : ∀ x, s.group g = some x → x.state = .blocked ∧ x.busy = 0) :
    removeGroup g 1 s = (⟨.done, []⟩, rewriteGroup g none (releaseRange s.cpl.circuits (s.group g)) s) := by
  have hi : ¬ (Config.lastGroup < g ∨ (1 : Nat) ≠ 1) := by
    rintro (h | h)
    · exact Nat.not_lt.2 hg h
    · exact h rfl
  simp only [removeGroup, if_neg hi, (mayRedefine_iff _).2 hf, Bool.not_true, Bool.false_eq_true, if_false, Reply.plain]

theorem removeGroup_groupInUse (hg : g ≤ 255)
    (hf : ∃ x, s.group g = some x ∧ (x.state ≠ .blocked ∨ x.busy ≠ 0)) :
    removeGroup g 1 s = (⟨.groupInUse, []⟩, s) := by
  have hi : ¬ (Config.lastGroup < g ∨ (1 : Nat) ≠ 1) := by
    rintro (h | h)
    · exact Nat.not_lt.2 hg h
    · exact h rfl
  obtain ⟨x, hx, hn⟩ := hf
  have hm : mayRedefine (s.group g) = false := Bool.eq_false_iff.2 fun h => by
    obtain ⟨h1, h2⟩ := (mayRedefine_iff _).1 h x hx
    exact hn.elim (fun h => h h1) fun h => h h2
  simp only [removeGroup, if_neg hi, hm, Bool.not_false, if_true, Reply.plain]

end Define

/-- A rewritten group leaves every block but CPL and CMN, and of CMN all but the records. -/
theorem rewriteGroup_deliver_frame (s : State) (g : Nat) (x : Option Group) (circuits : Table Circuit) (r : Requester)
    (c : Instr) (a : Reply) :
    ((rewriteGroup g x circuits s).deliver r c a).cmn
        = { s.cmn with records := ((rewriteGroup g x circuits s).deliver r c a).cmn.records }
      ∧ s.SameBut [.pct, .cpl, .cmn] ((rewriteGroup g x circuits s).deliver r c a)
      ∧ ((rewriteGroup g x circuits s).deliver r c a).pct = (s.deliver r c a).pct := by
  refine ⟨?_, ((rewriteGroup_sameBut s g x circuits).mono (by simp)).deliver (by simp) r c a, deliver_pct_congr (by rfl) r c a⟩
  rw [State.deliver_cmn]
  rfl

/-- Settles O17: the checks pass, and the rewritten tables read as R9 says. -/
theorem defineGroupRebuildsTheRange : Obligations.DefineGroupRebuildsTheRange := by
  intro r g a d l s h ht hp hg h1 h2 h3 h4 h5 hd hl hm hfree hapart
  have hs : groupStructure a = some (d, l) := (groupStructure_some_iff a d l).2
    ⟨⟨h1, h2, h3, h4, h5, hm⟩, hd ▸ directionOf_directionCode d, hl ▸ glareOf_glareCode l⟩
  have ho := (overlaps_eq_false_iff_apart ht hp g h1).2 hapart
  obtain ⟨hcmn, hsame, hpct⟩ := rewriteGroup_deliver_frame s g (some (definedGroup a d l))
    (definedCircuits s.cpl.circuits (s.group g) a) r (.defineGroupDefine r g a)
    ⟨if a.count < a.reserve then .adjusted else .done, []⟩
  refine ⟨_, serve_eq h _ (defineGroup_done hg hs hfree ho), ?_, fun g' hne => ?_, fun c => ?_, fun g' => ?_, hcmn,
    hsame, hpct⟩
  · rw [State.deliver_group, rewriteGroup_group, if_pos rfl]
    rfl
  · rw [State.deliver_group, rewriteGroup_group, if_neg hne]
  · rw [State.deliver_circuit, rewriteGroup_circuit]
    exact get_definedCircuits _ _ a hm c
  · rw [State.deliver_congestion, rewriteGroup_congestion]

/-- Settles O18: the checks of R8 in their order, and the remove form of R10. -/
theorem defineGroupChecksAndRemoves : Obligations.DefineGroupChecksAndRemoves := by
  refine ⟨fun r g a s h ht hp => ?_, fun r g form s h => ⟨fun hf => ?_, fun hg hf hfree => ?_, fun hg hf hbusy => ?_⟩⟩
  · refine ⟨fun hv => ?_, fun ⟨hg, hv⟩ hf => ?_, fun ⟨hg, hv⟩ hf hn => ?_⟩
    · exact serve_eq h _ (defineGroup_badValue hv)
    · exact serve_eq h _ (defineGroup_groupInUse hg hv hf)
    · refine serve_eq h _ (defineGroup_overlap hg hv hf ?_)
      rw [← Bool.not_eq_false, overlaps_eq_false_iff_apart ht hp g hv.1]
      exact hn
  · exact serve_eq h _ (if_pos (.inr hf))
  · subst hf
    obtain ⟨hcmn, hsame, hpct⟩ := rewriteGroup_deliver_frame s g none
      (releaseRange s.cpl.circuits (s.group g)) r (.defineGroupRemove r g 1) ⟨.done, []⟩
    refine ⟨_, serve_eq h _ (removeGroup_done hg hfree), fun g' => ?_, fun c => ?_, fun g' => ?_, hcmn, hsame, hpct⟩
    · rw [State.deliver_group, rewriteGroup_group]
    · rw [State.deliver_circuit, rewriteGroup_circuit]
      exact get_releaseRange _ _ c
    · rw [State.deliver_congestion, rewriteGroup_congestion]
  · subst hf
    exact serve_eq h _ (removeGroup_groupInUse hg hbusy)

/-! ### SET_GROUP_STATE and SET_RESERVE -/

section Settings

variable {s : State} {g : Nat} {x : Group}

theorem blockGroup_done (hg : g ≤ 255) (hx : s.group g = some x) :
    blockGroup g s = (⟨.done, []⟩, s.setGroup g (some { x with state := blockedState x })) := by
  have hi : ¬ Config.lastGroup < g := Nat.not_lt.2 hg
  simp only [blockGroup, if_neg hi, hx, Reply.plain]

theorem unblockGroup_done (hg : g ≤ 255) (hx : s.group g = some x) :
    unblockGroup g 1 s = (⟨.done, []⟩, s.setGroup g (some { x with state := .inService })) := by
  have hi : ¬ (Config.lastGroup < g ∨ (1 : Nat) ≠ 1) := by
    rintro (h | h)
    · exact Nat.not_lt.2 hg h
    · exact h rfl
  simp only [unblockGroup, if_neg hi, hx, Reply.plain]

theorem setReserve_done (hg : g ≤ 255) (hx : s.group g = some x) (n : Nat) :
    setReserve g n s = (⟨if x.count < n then .adjusted else .done, []⟩,
      s.setGroup g (some { x with reserve := if x.count < n then x.count else n })) := by
  have hi : ¬ Config.lastGroup < g := Nat.not_lt.2 hg
  have hmin : min n x.count = if x.count < n then x.count else n := by split <;> omega
  simp only [setReserve, if_neg hi, hx, Reply.plain, doneOr, decide_eq_true_eq, hmin]

theorem blockGroup_wrongState (hg : g ≤ 255) (hx : s.group g = none) : blockGroup g s = (⟨.wrongState, []⟩, s) := by
  have hi : ¬ Config.lastGroup < g := Nat.not_lt.2 hg
  simp only [blockGroup, if_neg hi, hx, Reply.plain]

theorem unblockGroup_wrongState (hg : g ≤ 255) (hx : s.group g = none) :
    unblockGroup g 1 s = (⟨.wrongState, []⟩, s) := by
  have hi : ¬ (Config.lastGroup < g ∨ (1 : Nat) ≠ 1) := by
    rintro (h | h)
    · exact Nat.not_lt.2 hg h
    · exact h rfl
  simp only [unblockGroup, if_neg hi, hx, Reply.plain]

theorem setReserve_wrongState (hg : g ≤ 255) (hx : s.group g = none) (n : Nat) :
    setReserve g n s = (⟨.wrongState, []⟩, s) := by
  have hi : ¬ Config.lastGroup < g := Nat.not_lt.2 hg
  simp only [setReserve, if_neg hi, hx, Reply.plain]

theorem blockedState_eq (x : Group) :
    blockedState x = if x.state = .inService then (if x.busy = 0 then .blocked else .draining) else x.state := by
  unfold blockedState
  split <;> simp [*]

/-- A group's record written and nothing else, and the reply delivered. -/
theorem setGroup_deliver_frame (s : State) (g : Nat) (v : Group) (r : Requester) (c : Instr) (a : Reply) :
    ((s.setGroup g (some v)).deliver r c a).group g = some v
      ∧ (∀ g', g' ≠ g → ((s.setGroup g (some v)).deliver r c a).group g' = s.group g')
      ∧ ((s.setGroup g (some v)).deliver r c a).cpl.circuits = s.cpl.circuits
      ∧ s.SameBut [.pct, .cpl] ((s.setGroup g (some v)).deliver r c a)
      ∧ ((s.setGroup g (some v)).deliver r c a).pct = (s.deliver r c a).pct := by
  refine ⟨by simp, fun g' hne => by simp [hne], by simp,
    ((setGroup_sameBut s g _).mono (by simp)).deliver (by simp) r c a, deliver_pct_congr (by rfl) r c a⟩

end Settings

/-- Settles O19: each of the three requests writes one field of the group's record. -/
theorem groupSettingsAreWritten : Obligations.GroupSettingsAreWritten := by
  refine ⟨fun r g s x hg hx => ⟨fun h => ?_, fun h => ?_, fun n h => ?_⟩, fun r g s c h => ⟨fun f hf hc => ?_, ?_⟩⟩
  · rw [← blockedState_eq x]
    exact ⟨_, serve_eq h _ (blockGroup_done hg hx), setGroup_deliver_frame s g _ r _ _⟩
  · exact ⟨_, serve_eq h _ (unblockGroup_done hg hx), setGroup_deliver_frame s g _ r _ _⟩
  · exact ⟨_, serve_eq h _ (setReserve_done hg hx n), setGroup_deliver_frame s g _ r _ _⟩
  · subst hc
    exact serve_eq h _ (if_pos (.inr hf))
  · rintro hg hx (rfl | rfl | ⟨n, rfl⟩)
    · exact serve_eq h _ (blockGroup_wrongState hg hx)
    · exact serve_eq h _ (unblockGroup_wrongState hg hx)
    · exact serve_eq h _ (setReserve_wrongState hg hx n)

/-! ### CIRCUIT_MAINT -/

section Maint

variable {s : State} {g c : Nat} {x : Group}

/-- A MAINT or IDLE circuit bears no mark (R3). -/
theorem State.PoolInv.mark_of_not_held (h : s.PoolInv) (hc : (s.circuit c).held = false) :
    (s.circuit c).mark = false :=
  Bool.eq_false_iff.2 fun hm => by rw [h.marks c hm] at hc; cases hc

theorem circuitOut_done (ht : s.TablesInv) (hp : s.PoolInv) (hc : c ≤ 16383) (hg : s.group g = some x)
    (hh : groupHolds c x = true) : circuitOut c s = (⟨.done, []⟩, takeOut g c s) := by
  have hi : ¬ Config.lastCircuit < c := Nat.not_lt.2 hc
  simp only [circuitOut, if_neg hi, groupOf_of_holds ht hp hg hh, Reply.plain]

theorem circuitReturn_done (ht : s.TablesInv) (hp : s.PoolInv) (hc : c ≤ 16383) (hg : s.group g = some x)
    (hh : groupHolds c x = true) : circuitReturn c 1 s = (⟨.done, []⟩, putBack g c s) := by
  have hi : ¬ (Config.lastCircuit < c ∨ (1 : Nat) ≠ 1) := by
    rintro (h | h)
    · exact Nat.not_lt.2 hc h
    · exact h rfl
  simp only [circuitReturn, if_neg hi, groupOf_of_holds ht hp hg hh, Reply.plain]

theorem circuitOut_wrongState (ht : s.TablesInv) (hc : c ≤ 16383)
    (h : ∀ g x, s.group g = some x → groupHolds c x = false) : circuitOut c s = (⟨.wrongState, []⟩, s) := by
  have hi : ¬ Config.lastCircuit < c := Nat.not_lt.2 hc
  simp only [circuitOut, if_neg hi, groupOf_eq_none ht h, Reply.plain]

theorem circuitReturn_wrongState (ht : s.TablesInv) (hc : c ≤ 16383)
    (h : ∀ g x, s.group g = some x → groupHolds c x = false) : circuitReturn c 1 s = (⟨.wrongState, []⟩, s) := by
  have hi : ¬ (Config.lastCircuit < c ∨ (1 : Nat) ≠ 1) := by
    rintro (h | h)
    · exact Nat.not_lt.2 hc h
    · exact h rfl
  simp only [circuitReturn, if_neg hi, groupOf_eq_none ht h, Reply.plain]

theorem idle_or_held_or_maint (v : Circuit) : v.state = .idle ∨ v.held = true ∨ v.state = .maint := by
  cases h : v.state <;> simp [Circuit.held, h]

theorem state_ne_idle_of_held {v : Circuit} (h : v.held = true) : v.state ≠ .idle := fun hs => by
  rw [(held_eq_false_iff v).2 (.inl hs)] at h; cases h

theorem state_ne_maint_of_held {v : Circuit} (h : v.held = true) : v.state ≠ .maint := fun hs => by
  rw [(held_eq_false_iff v).2 (.inr hs)] at h; cases h

theorem takeOut_idle (h : (s.circuit c).state = .idle) :
    takeOut g c s = moveCircuit g c ⟨.maint, false⟩ (fun l => l.erase c) s := by simp only [takeOut, h]
theorem takeOut_held (h : (s.circuit c).held = true) :
    takeOut g c s = s.setCircuit c { s.circuit c with mark := true } := by
  rcases (held_iff _).1 h with hs | hs <;> simp only [takeOut, hs]
theorem takeOut_maint (h : (s.circuit c).state = .maint) : takeOut g c s = s := by simp only [takeOut, h]

theorem putBack_maint (h : (s.circuit c).state = .maint) :
    putBack g c s = moveCircuit g c Circuit.idle (fun l => l ++ [c]) s := by simp only [putBack, h]
theorem putBack_held (h : (s.circuit c).held = true) :
    putBack g c s = s.setCircuit c { s.circuit c with mark := false } := by
  rcases (held_iff _).1 h with hs | hs <;> simp only [putBack, hs]
theorem putBack_idle (h : (s.circuit c).state = .idle) : putBack g c s = s := by simp only [putBack, h]

/-- What a CIRCUIT_MAINT may do: circuit `c` stands at `v`, its group's free list is `l`, and the rest of the pool is as it was. -/
structure State.Maintained (s : State) (g c : Nat) (x : Group) (v : Circuit) (l : List Nat) (t : State) : Prop where
  group : t.group g = some { x with freeList := l }
  circuit : t.circuit c = v
  groups : ∀ g', g' ≠ g → t.group g' = s.group g'
  circuits : ∀ c', c' ≠ c → t.circuit c' = s.circuit c'

/-- R15: an IDLE circuit leaves the free list for MAINT, a held one is marked, a MAINT one is left. -/
theorem takeOut_maintained (hp : s.PoolInv) (hg : s.group g = some x) : s.Maintained g c x
    (if (s.circuit c).held = true then { s.circuit c with mark := true } else ⟨.maint, (s.circuit c).mark⟩)
    (if (s.circuit c).state = .idle then x.freeList.erase c else x.freeList) (takeOut g c s) := by
  rcases idle_or_held_or_maint (s.circuit c) with hst | hh | hst
  · have hn : (s.circuit c).held = false := (held_eq_false_iff _).2 (.inl hst)
    rw [takeOut_idle hst, moveCircuit_some hg, hn, hp.mark_of_not_held hn, hst]
    exact ⟨by simp, by simp, fun g' hne => by simp [hne], fun c' hne => by simp [hne]⟩
  · rw [takeOut_held hh, if_pos hh, if_neg (state_ne_idle_of_held hh)]
    exact ⟨hg, by simp, fun g' _ => rfl, fun c' hne => by simp [hne]⟩
  · have hn : (s.circuit c).held = false := (held_eq_false_iff _).2 (.inr hst)
    rw [takeOut_maint hst, hn, if_neg Bool.false_ne_true, if_neg (by rw [hst]; decide), ← hst]
    exact ⟨hg, rfl, fun g' _ => rfl, fun c' _ => rfl⟩

/-- R16: a MAINT circuit becomes IDLE at the tail of the free list, a held one loses its mark, an IDLE one is left. -/
theorem putBack_maintained (hp : s.PoolInv) (hg : s.group g = some x) : s.Maintained g c x
    (if (s.circuit c).held = true then { s.circuit c with mark := false } else Circuit.idle)
    (if (s.circuit c).state = .maint then x.freeList ++ [c] else x.freeList) (putBack g c s) := by
  rcases idle_or_held_or_maint (s.circuit c) with hst | hh | hst
  · have hn : (s.circuit c).held = false := (held_eq_false_iff _).2 (.inl hst)
    rw [putBack_idle hst, hn, if_neg Bool.false_ne_true, if_neg (by rw [hst]; decide), Circuit.idle, ← hst,
      ← hp.mark_of_not_held hn]
    exact ⟨hg, rfl, fun g' _ => rfl, fun c' _ => rfl⟩
  · rw [putBack_held hh, if_pos hh, if_neg (state_ne_maint_of_held hh)]
    exact ⟨hg, by simp, fun g' _ => rfl, fun c' hne => by simp [hne]⟩
  · have hn : (s.circuit c).held = false := (held_eq_false_iff _).2 (.inr hst)
    rw [putBack_maint hst, moveCircuit_some hg, hn, hst]
    exact ⟨by simp, by simp, fun g' hne => by simp [hne], fun c' hne => by simp [hne]⟩

end Maint

/-- Settles O20: each form by the state of its circuit, and its refusals. -/
theorem circuitMaintenanceMovesOneCircuit : Obligations.CircuitMaintenanceMovesOneCircuit := by
  refine ⟨fun r c g s x ht hp hc hg hh => ⟨fun h => ?_, fun h => ?_⟩, fun r c s ht =>
    ⟨fun h => ⟨fun hc => ?_, fun hc hno => ?_⟩, fun form h => ⟨fun hf => ?_, fun hc hf hno => ?_⟩⟩⟩
  · have hsame := takeOut_sameBut s g c
    obtain ⟨h1, h2, h3, h4⟩ := takeOut_maintained (c := c) hp hg
    exact ⟨_, serve_eq h _ (circuitOut_done ht hp hc hg hh), by rwa [State.deliver_group],
      by rwa [State.deliver_circuit], fun g' hne => by rw [State.deliver_group, h3 g' hne],
      fun c' hne => by rw [State.deliver_circuit, h4 c' hne],
      (hsame.mono (by simp)).deliver (by simp) r _ _, deliver_pct_congr (hsame.pct.resolve_left (by decide)) r _ _⟩
  · have hsame := putBack_sameBut s g c
    obtain ⟨h1, h2, h3, h4⟩ := putBack_maintained (c := c) hp hg
    exact ⟨_, serve_eq h _ (circuitReturn_done ht hp hc hg hh), by rwa [State.deliver_group],
      by rwa [State.deliver_circuit], fun g' hne => by rw [State.deliver_group, h3 g' hne],
      fun c' hne => by rw [State.deliver_circuit, h4 c' hne],
      (hsame.mono (by simp)).deliver (by simp) r _ _, deliver_pct_congr (hsame.pct.resolve_left (by decide)) r _ _⟩
  · exact serve_eq h _ (if_pos hc)
  · exact serve_eq h _ (circuitOut_wrongState ht hc hno)
  · exact serve_eq h _ (if_pos hf)
  · subst hf
    exact serve_eq h _ (circuitReturn_wrongState ht hc hno)

end Sys2Proof.Machine
end

section
/-! SUPPORT. The end of a call: RELEASE (R35 to R37), GUARD_EXPIRY (R40) and EXCHANGE_RESTART (R21, R45), with the notices of the drains that they complete (R13). -/

namespace Sys2Proof.Machine

open Sys2Proof

/-! ### Notices raised one after the other -/

section Notices

variable {s t : State}

theorem raiseAll_pct_congr (hp : t.pct = s.pct) (ht : t.tmb = s.tmb) (b : NoticeBody) :
    (t.raiseAll b).pct = (s.raiseAll b).pct := by
  simp only [State.raiseAll, State.mapPorts, State.noticeStamp, State.now, hp, ht]

theorem raiseTo_pct_congr (hp : t.pct = s.pct) (ht : t.tmb = s.tmb) (p : PortId) (b : NoticeBody) :
    (t.raiseTo p b).pct = (s.raiseTo p b).pct := by
  refine State.pct_ext _ _ fun q => ?_
  have hport : ∀ q, t.port q = s.port q := fun q => by cases q <;> simp only [State.port, hp]
  simp only [State.raiseTo_port, State.noticeStamp, State.now, hport, ht]

theorem raiseEach_tmb (s : State) (l : List NoticeBody) : (s.raiseEach l).tmb = s.tmb := by
  induction l generalizing s with
  | nil => rfl
  | cons b l ih => exact ih (s.raiseAll b)

theorem raiseEach_pct_congr (hp : t.pct = s.pct) (ht : t.tmb = s.tmb) (l : List NoticeBody) :
    (t.raiseEach l).pct = (s.raiseEach l).pct := by
  induction l generalizing s t with
  | nil => exact hp
  | cons b l ih => exact ih (raiseAll_pct_congr hp ht b) ht

/-- One notice raised where `b` asks for it. -/
theorem raiseIf_pct_congr (hp : t.pct = s.pct) (ht : t.tmb = s.tmb) (b : Bool) (x : NoticeBody) :
    (if b = true then (t.raiseAll x).pct else t.pct) = (s.raiseEach (if b = true then [x] else [])).pct := by
  cases b with
  | false => exact hp
  | true => exact raiseAll_pct_congr hp ht x

end Notices

/-! ### What freeing a record does -/

section Freeing

variable {s : State} {r : CallRecord}

theorem completesDrain_iff (x : Group) : completesDrain x = true ↔ x.state = .draining ∧ x.busy ≤ 1 := by
  simp only [completesDrain, Bool.and_eq_true, decide_eq_true_eq]
  exact and_congr_right fun _ => by omega

/-- After one circuit has been freed, a second one of the same group completes its drain exactly where two were busy. -/
theorem completesDrain_groupAfterFreeing_iff (c : Nat) (m : Bool) (x : Group) :
    completesDrain (groupAfterFreeing c m x) = true ↔ x.state = .draining ∧ x.busy = 2 := by
  rw [completesDrain_iff]
  simp only [groupAfterFreeing]
  split
  · rename_i h
    simp only [reduceCtorEq, false_and, false_iff]
    omega
  · rename_i h
    refine and_congr_right fun hs => ?_
    have : ¬ x.busy - 1 = 0 := fun hz => h ⟨hs, hz⟩
    omega

theorem freeOutbound_circuit (s : State) (r : CallRecord) (c : Nat) : (freeOutbound r s).circuit c =
    if r.outbound.any (fun o => decide (o.circuit = c)) = true then circuitAfterFreeing (s.circuit c).mark
    else s.circuit c := by
  unfold freeOutbound
  split
  · rename_i o ho
    rw [freeCircuit_circuit, ho]
    by_cases hc : o.circuit = c
    · simp [hc]
    · have hc' : c ≠ o.circuit := fun h => hc h.symm
      simp [hc, hc']
  · rename_i hn
    simp [hn]

theorem freeOutbound_group (s : State) (r : CallRecord) (g : Nat) : (freeOutbound r s).group g =
    (s.group g).map fun x => match r.outbound with
      | some o => if o.group = g then groupAfterFreeing o.circuit (s.circuit o.circuit).mark x else x
      | none => x := by
  unfold freeOutbound
  cases ho : r.outbound with
  | none => simp
  | some o =>
    simp only
    rw [freeCircuit_group]
    by_cases hg : g = o.group
    · subst hg; simp
    · have hg' : o.group ≠ g := fun h => hg h.symm
      simp [hg, hg']

/-- With its circuits apart, a record's inbound circuit is not touched by the freeing of its outbound one. -/
theorem freeOutbound_circuit_inbound (hn : r.circuits.Nodup) {b : Inbound} (hb : r.inbound = some b) :
    (freeOutbound r s).circuit b.circuit = s.circuit b.circuit := by
  rw [freeOutbound_circuit, if_neg]
  rw [Option.any_eq_true]
  rintro ⟨o, ho, hc⟩
  rw [decide_eq_true_eq] at hc
  simp [CallRecord.circuits, ho, hb, hc] at hn

/-- The groups after a record's circuits have been freed (R13, R20). -/
theorem freeSides_group (hn : r.circuits.Nodup) (g : Nat) :
    (freeInbound r (freeOutbound r s)).group g = (s.group g).map (r.freesIn s g) := by
  have hout := freeOutbound_group s r g
  cases hb : r.inbound with
  | none =>
    simp only [freeInbound, hb, hout]
    congr 1
    funext x
    simp only [CallRecord.freesIn, hb] <;> rfl
  | some b =>
    simp only [freeInbound, hb, freeCircuit_group, freeOutbound_circuit_inbound hn hb]
    by_cases hg : g = b.group
    · subst hg
      rw [if_pos rfl, hout, Option.map_map]
      congr 1
      funext x
      simp only [Function.comp_apply, CallRecord.freesIn, hb, if_pos] <;> rfl
    · rw [if_neg hg, hout]
      congr 1
      funext x
      simp only [CallRecord.freesIn, hb, if_neg fun h : b.group = g => hg h.symm] <;> rfl

/-- The circuits after a record's circuits have been freed (R20). -/
theorem freeSides_circuit (hn : r.circuits.Nodup) (c : Nat) : (freeInbound r (freeOutbound r s)).circuit c =
    if c ∈ r.circuits then (if (s.circuit c).mark then ⟨.maint, false⟩ else Circuit.idle) else s.circuit c := by
  have hfreed : ∀ c', circuitAfterFreeing (s.circuit c').mark
      = if (s.circuit c').mark then ⟨.maint, false⟩ else Circuit.idle := fun _ => rfl
  have hout : (freeOutbound r s).circuit c = _ := freeOutbound_circuit s r c
  simp only [r.mem_circuits c]
  cases hb : r.inbound with
  | none =>
    simp only [freeInbound, hb, hout, Option.any_eq_true, decide_eq_true_eq, hfreed]
    simp
  | some b =>
    simp only [freeInbound, hb, freeCircuit_circuit, freeOutbound_circuit_inbound hn hb, hout, Option.any_eq_true,
      decide_eq_true_eq, hfreed]
    by_cases hc : c = b.circuit
    · subst hc; simp
    · have hc' : b.circuit ≠ c := fun h => hc h.symm
      simp [hc, hc']

theorem freeOutbound_pct (s : State) (r : CallRecord) : (freeOutbound r s).pct =
    (s.raiseEach (match r.outbound with
      | some o => if (s.group o.group).any (fun x => decide (x.state = .draining ∧ x.busy ≤ 1)) then
          [.groupDrained o.group] else []
      | none => [])).pct := by
  unfold freeOutbound
  cases ho : r.outbound with
  | none => rfl
  | some o =>
    have hdrain : (s.group o.group).any completesDrain
        = (s.group o.group).any fun x => decide (x.state = .draining ∧ x.busy ≤ 1) := by
      congr 1
      funext x
      rw [Bool.eq_iff_iff, completesDrain_iff, decide_eq_true_eq]
    simp only
    rw [freeCircuit_pct, hdrain]
    split <;> rfl

theorem raiseEach_append (s : State) (l m : List NoticeBody) : s.raiseEach (l ++ m) = (s.raiseEach l).raiseEach m :=
  List.foldl_append

/-- The notices that freeing a record's circuits raises, the outbound group's first (R13, R20). -/
theorem freeSides_pct (s : State) (r : CallRecord) :
    (freeInbound r (freeOutbound r s)).pct = (s.raiseEach (r.drained s)).pct := by
  have hout := freeOutbound_pct s r
  have htmb : (freeOutbound r s).tmb = s.tmb := (freeOutbound_sameBut s r).tmb.resolve_left (by decide)
  rw [CallRecord.drained, raiseEach_append]
  cases hb : r.inbound with
  | none =>
    simp only [freeInbound, hb]
    exact hout
  | some b =>
    have hdrain : ((freeOutbound r s).group b.group).any completesDrain
        = (s.group b.group).any fun x => decide (x.state = .draining ∧
          if r.outbound.any (fun o => decide (o.group = b.group)) then x.busy = 2 else x.busy ≤ 1) := by
      rw [freeOutbound_group, Option.any_map]
      congr 1
      funext x
      rw [Bool.eq_iff_iff, decide_eq_true_eq]
      cases ho : r.outbound with
      | none => simpa using completesDrain_iff x
      | some o =>
        by_cases hg : o.group = b.group
        · simpa [hg] using completesDrain_groupAfterFreeing_iff o.circuit (s.circuit o.circuit).mark x
        · simpa [hg] using completesDrain_iff x
    simp only [freeInbound, hb]
    rw [freeCircuit_pct, hdrain]
    exact raiseIf_pct_congr hout (htmb.trans (raiseEach_tmb s _).symm) _ _

/-- Record `i`, which was `r`, is free in `t`, and so are its circuits; the rest of CRT and the pool is as it was in `s` (R13, R20, R25). -/
structure State.Freed (s : State) (i : Nat) (r : CallRecord) (t : State) : Prop where
  calls : ∀ i', t.call i' = if i' = i then none else s.call i'
  gens : ∀ i', t.gen i' = if i' = i then (s.gen i + 1) % 256 else s.gen i'
  queue : queueList t.crt.queue = queueList s.crt.queue ++ [i]
  guardSeconds : t.crt.guardSeconds = s.crt.guardSeconds
  groups : ∀ g, t.group g = (s.group g).map (r.freesIn s g)
  circuits : ∀ c, t.circuit c =
    if c ∈ r.circuits then (if (s.circuit c).mark then ⟨.maint, false⟩ else Circuit.idle) else s.circuit c

theorem freeCall_freed (hn : r.circuits.Nodup) (i : Nat) : s.Freed i r (freeCall i r s) := by
  have hcrt : (freeInbound r (freeOutbound r s)).crt = s.crt :=
    (freeInbound_frame r _).1.trans (freeOutbound_frame r s).1
  have hcall : ∀ i', (freeInbound r (freeOutbound r s)).call i' = s.call i' := fun i' => by simp only [State.call, hcrt]
  have hgen : ∀ i', (freeInbound r (freeOutbound r s)).gen i' = s.gen i' := fun i' => by simp only [State.gen, hcrt]
  refine ⟨fun i' => ?_, fun i' => ?_, ?_, ?_, fun g => freeSides_group hn g, fun c => freeSides_circuit hn c⟩
  · rw [freeCall, freeRecord_call, hcall]
  · rw [freeCall, freeRecord_gen, hgen, hgen]
    rfl
  · rw [freeCall, freeRecord_queue, hcrt]
  · show (freeInbound r (freeOutbound r s)).crt.guardSeconds = _
    rw [hcrt]

theorem freeCall_pct (s : State) (r : CallRecord) (i : Nat) : (freeCall i r s).pct = (s.raiseEach (r.drained s)).pct :=
  freeSides_pct s r

theorem freesIn_congr {t : State} (h : t.cpl = s.cpl) (r : CallRecord) (g : Nat) (x : Group) :
    r.freesIn t g x = r.freesIn s g x := by
  simp only [CallRecord.freesIn, State.circuit, h]

theorem drained_congr {t : State} (h : t.cpl = s.cpl) (r : CallRecord) : r.drained t = r.drained s := by
  simp only [CallRecord.drained, State.group, h]
  rfl

/-- What is said of a freed record is said of CPL and CRT alone. -/
theorem State.Freed.congr {s' t t' : State} {i : Nat} (h : s.Freed i r t) (h1 : s'.cpl = s.cpl) (h2 : s'.crt = s.crt)
    (h3 : t'.cpl = t.cpl) (h4 : t'.crt = t.crt) : s'.Freed i r t' := by
  have hcirc : ∀ c, s'.circuit c = s.circuit c := fun c => by simp only [State.circuit, h1]
  refine ⟨fun i' => ?_, fun i' => ?_, ?_, ?_, fun g => ?_, fun c => ?_⟩
  · simpa only [State.call, h2, h4] using h.calls i'
  · simpa only [State.gen, h2, h4] using h.gens i'
  · rw [h4, h2]; exact h.queue
  · rw [h4, h2]; exact h.guardSeconds
  · have hfun : r.freesIn s' g = r.freesIn s g := funext fun x => freesIn_congr h1 r g x
    rw [hfun]
    simpa only [State.group, h1, h3] using h.groups g
  · have := h.circuits c
    rw [hcirc c]
    simpa only [State.circuit, h3] using this

end Freeing

/-! ### GUARD_EXPIRY -/

/-- Settles O25: the expiry frees the call and then tells its owner; before the deadline nothing happens. -/
theorem guardExpiryFreesTheCall : Obligations.GuardExpiryFreesTheCall := by
  refine ⟨fun i d s x hx hd hdue hn => ?_, fun i s h => ?_⟩
  · have hdue' : guardDue s.now x = true := by
      simp only [guardDue, hd, Option.any_some, decide_eq_true_eq]
      exact hdue
    have hexec : exec (.guardExpiry i) s = .next (expireCall i x s) := by
      show execGuardExpiry i s = _
      simp only [execGuardExpiry, hx, eventWhen, hdue', if_true]
    have hfreed : s.Freed i x (expireCall i x s) := (freeCall_freed hn i).congr rfl rfl rfl rfl
    refine ⟨_, hexec, hfreed.calls, hfreed.gens, hfreed.queue, hfreed.guardSeconds, hfreed.groups, hfreed.circuits,
      (freeCall_sameBut s i x).trans ((raiseTo_sameBut _ _ _).mono (by simp)), ?_⟩
    refine raiseTo_pct_congr (freeCall_pct _ _ i) ?_ x.owner _
    rw [raiseEach_tmb]
    exact (freeCall_sameBut s i x).tmb.resolve_left (by decide)
  · show execGuardExpiry i s = _
    cases hx : s.call i with
    | none => simp only [execGuardExpiry, hx]
    | some x =>
      have hnot : guardDue s.now x = false := by
        rw [Bool.eq_false_iff, guardDue, ne_eq, Option.any_eq_true]
        rintro ⟨d, hd, hle⟩
        exact Nat.not_lt.2 (of_decide_eq_true hle) (h x d hx hd)
      simp only [execGuardExpiry, hx, eventWhen, hnot, Bool.false_eq_true, if_false]

/-! ### RELEASE -/

theorem findOwnCall_eq_ok {s : State} {p : PortId} {i g : Nat} {x : CallRecord} (h : i < 16384)
    (hx : s.call i = some x) (hg : s.gen i = g) (ho : x.owner = p) : findOwnCall s p i g = .ok x := by
  simp only [findOwnCall, findCall_eq_ok h hx hg, if_pos ho]

/-- The payable leg that R123 describes is the one that the release rates. -/
theorem payableLeg_eq {s : State} {x : CallRecord} {pay : Option RatedLeg}
    (h : ∀ n o, x.outbound = some o → o.payable = some n → pay = some (rateLeg
      (s.tariff (s.carrierOf o.group) n) .payable (s.carrierOf o.group) n o.level x.cls
      (if x.state = .answered then x.answer else none) s.tmb.running))
    (hnone : (∀ o, x.outbound = some o → o.payable = none) → pay = none) : payableLeg s x = pay := by
  cases ho : x.outbound with
  | none =>
    rw [hnone fun o h => by rw [ho] at h; cases h]
    simp only [payableLeg, ho, Option.bind_none]
  | some o =>
    cases hp : o.payable with
    | none =>
      rw [hnone fun o' h => by rw [ho] at h; cases h; exact hp]
      simp only [payableLeg, ho, Option.bind_some, hp, Option.map_none]
    | some n =>
      rw [h n o ho hp]
      simp only [payableLeg, ho, Option.bind_some, hp, Option.map_some]
      rfl

/-- The receivable leg that R123 describes is the one that the release rates. -/
theorem receivableLeg_eq {s : State} {x : CallRecord} {recv : Option RatedLeg}
    (h : ∀ n b, x.inbound = some b → b.receivable = some n → recv = some (rateLeg
      (s.tariff (s.carrierOf b.group) n) .receivable (s.carrierOf b.group) n b.level x.cls
      (if x.state = .answered then x.answer else none) s.tmb.running))
    (hnone : (∀ b, x.inbound = some b → b.receivable = none) → recv = none) : receivableLeg s x = recv := by
  cases hb : x.inbound with
  | none =>
    rw [hnone fun b h => by rw [hb] at h; cases h]
    simp only [receivableLeg, hb, Option.bind_none]
  | some b =>
    cases hp : b.receivable with
    | none =>
      rw [hnone fun b' h => by rw [hb] at h; cases h; exact hp]
      simp only [receivableLeg, hb, Option.bind_some, hp, Option.map_none]
    | some n =>
      rw [h n b hb hp]
      simp only [receivableLeg, hb, Option.bind_some, hp, Option.map_some]
      rfl

/-- A release by the owner: the legs that stand are added to the ACTIVE bank, the call is freed, and the reply reports the legs. -/
theorem releaseCall_eq {s : State} {p : PortId} {i g : Nat} {x : CallRecord} {pay recv : Option RatedLeg}
    (hf : findOwnCall s p i g = .ok x) (hdis : x.state = .displaced → x.outbound = none ∧ pay = none ∧ recv = none)
    (hlegs : x.state ≠ .displaced → payableLeg s x = pay ∧ receivableLeg s x = recv) :
    releaseCall p i g s = (⟨.released, legBytes pay ++ legBytes recv⟩,
      freeCall i x (accumulateLeg recv (accumulateLeg pay s))) := by
  have hrated : x.state ≠ .displaced → releaseRated i x s = (⟨.released, legBytes pay ++ legBytes recv⟩,
      freeCall i x (accumulateLeg recv (accumulateLeg pay s))) := fun hne => by
    simp only [releaseRated, (hlegs hne).1, (hlegs hne).2]
  simp only [releaseCall, hf]
  split <;> rename_i hst
  · exact hrated (by rw [hst]; decide)
  · exact hrated (by rw [hst]; decide)
  · exact hrated (by rw [hst]; decide)
  · obtain ⟨hout, rfl, rfl⟩ := hdis hst
    simp only [freeCall, freeOutbound, hout, accumulateLeg]

/-- Settles O24: the legs are rated as R123 says, the circuits and the record are freed, and each drain that this completes is told. -/
theorem releaseRatesAndFrees : Obligations.ReleaseRatesAndFrees := by
  intro r i g s x pay recv h hi hx hg ho hn hdis hpay hpay0 hrecv hrecv0
  have hrel := releaseCall_eq (findOwnCall_eq_ok hi hx hg ho) hdis fun hne =>
    ⟨payableLeg_eq (fun n o => hpay n o hne) hpay0, receivableLeg_eq (fun n b => hrecv n b hne) hrecv0⟩
  have hlegs : s.SameBut [.sts] (accumulateLeg recv (accumulateLeg pay s)) :=
    (accumulateLeg_sameBut s pay).trans (accumulateLeg_sameBut _ recv)
  have hcpl := hlegs.cpl.resolve_left (by decide)
  have hcall := freeCall_sameBut (accumulateLeg recv (accumulateLeg pay s)) i x
  have hfreed : s.Freed i x ((freeCall i x (accumulateLeg recv (accumulateLeg pay s))).deliver r (.release r i g)
      ⟨.released, legBytes pay ++ legBytes recv⟩) :=
    (freeCall_freed hn i).congr hcpl.symm (hlegs.crt.resolve_left (by decide)).symm (by simp) (by simp)
  refine ⟨_, serve_eq h _ hrel, hfreed.calls, hfreed.gens, hfreed.queue, hfreed.guardSeconds, hfreed.groups,
    hfreed.circuits, ?_, ?_, deliver_pct_congr ?_ r _ _⟩
  · rw [State.deliver_sts]
    exact hcall.sts.resolve_left (by decide)
  · exact ((hlegs.mono (by simp)).trans (hcall.mono (by simp))).deliver (by simp) r _ _
  · rw [freeCall_pct _ _ i, drained_congr hcpl]
    exact raiseEach_pct_congr (hlegs.pct.resolve_left (by decide)) (hlegs.tmb.resolve_left (by decide)) _

/-! ### EXCHANGE_RESTART -/

theorem liveIndices_pairwise {s : State} (ht : s.TablesInv) : (liveIndices s).Pairwise (· < ·) := by
  rw [liveIndices, List.pairwise_map]
  exact ((Table.wf_iff _ _ _).1 ht.calls).1.filter _

theorem mem_liveIndices {s : State} (ht : s.TablesInv) (i : Nat) : i ∈ liveIndices s ↔ (s.call i).isSome = true := by
  simp only [liveIndices, List.mem_map, List.mem_filter]
  constructor
  · rintro ⟨⟨j, v⟩, ⟨hm, hv⟩, rfl⟩
    rwa [State.call, get_of_mem_of_wf _ _ ht.calls _ _ hm]
  · intro h
    obtain ⟨x, hx⟩ := Option.isSome_iff_exists.1 h
    exact ⟨(i, some x), ⟨mem_of_get _ _ _ hx, rfl⟩, rfl⟩

/-- A live record's index lies in the table. -/
theorem call_lt {s : State} (ht : s.TablesInv) {i : Nat} (h : (s.call i).isSome = true) : i < 16384 := by
  obtain ⟨x, hx⟩ := Option.isSome_iff_exists.1 h
  have := (((Table.wf_iff _ _ _).1 ht.calls).2 _ (mem_of_get _ _ _ hx)).1
  simp only [Config.callRecords] at this
  omega

/-- The live indices are those of the table's range, ascending. -/
theorem liveIndices_eq {s : State} (ht : s.TablesInv) :
    liveIndices s = (List.range 16384).filter fun i => (s.call i).isSome := by
  have hl := liveIndices_pairwise ht
  have hr : ((List.range 16384).filter fun i => (s.call i).isSome).Pairwise (· < ·) := List.pairwise_lt_range.filter _
  refine ((List.perm_ext_iff_of_nodup (hl.imp fun h => Nat.ne_of_lt h) (hr.imp fun h => Nat.ne_of_lt h)).2
    fun i => ?_).eq_of_pairwise (fun a b _ _ h1 h2 => absurd h1 (Nat.lt_asymm h2)) hl hr
  rw [mem_liveIndices ht, List.mem_filter, List.mem_range]
  exact ⟨fun h => ⟨call_lt ht h, h⟩, fun h => h.2⟩

theorem get_advanceGens (l : List Nat) (hl : l.Nodup) (gens : Table Nat) (i : Nat) :
    Table.get 0 (advanceGens gens l) i = if i ∈ l then nextGen (Table.get 0 gens i) else Table.get 0 gens i := by
  induction l generalizing gens with
  | nil => rfl
  | cons a l ih =>
    rw [List.nodup_cons] at hl
    show Table.get 0 (advanceGens (Table.set 0 gens a (nextGen (Table.get 0 gens a))) l) i = _
    rw [ih hl.2, Table.get_set]
    by_cases hi : i = a
    · subst hi; simp [hl.1]
    · simp [hi]

/-- Settles O27: every record is freed in ascending order, and the pool is restored. -/
theorem restartClearsEveryCall : Obligations.RestartClearsEveryCall := by
  intro r s h ht
  refine ⟨_, serve_eq h exchangeRestart rfl, fun i => by rw [State.deliver_call]; rfl, fun i => ?_, ?_, ?_, fun c => ?_,
    fun g => ?_, ((exchangeRestart_sameBut s).mono (by simp)).deliver (by simp) r _ _, deliver_pct_congr (by rfl) r _ _⟩
  · rw [State.deliver_gen]
    refine (get_advanceGens _ ((liveIndices_pairwise ht).imp fun h => Nat.ne_of_lt h) s.crt.gens i).trans ?_
    simp only [mem_liveIndices ht]
    rfl
  · rw [State.deliver_crt, ← liveIndices_eq ht]
    simp only [queueList, queuePush, List.append_assoc]
  · rw [State.deliver_crt]
  · rw [State.deliver_circuit, ← restartCircuit_eq]
    exact exchangeRestart_circuit ht c
  · simp only [State.deliver_group, State.deliver_circuit]
    exact exchangeRestart_group s g

end Sys2Proof.Machine
end

section
/-! SUPPORT. What a ROUTE does (R59): its checks, its walk (R60 to R68), and the admission that ends it (R28, R65). -/

namespace Sys2Proof.Machine

open Sys2Proof

/-! ### The steps before the walk -/

section Steps

variable {s : State} {p : PortId} {d n i : Nat} {cls : CallClass} {inb : Option Nat} {plan : InboundPlan}

theorem classOf_classCode (cls : CallClass) : classOf (classCode cls) = some cls := by
  cases cls <;> rfl

theorem classOf_eq_none (h : 3 < n) : classOf n = none := by
  obtain ⟨m, rfl⟩ := Nat.exists_eq_add_of_lt h
  rw [show 3 + m + 1 = m + 4 by omega]
  rfl

/-- Steps 1 and 2 of R59 pass: the call has the record at the head of the queue. -/
theorem routeCall_eq {rest : List Nat} (hd : d ≤ 4095) (hc : classOf n = some cls)
    (hq : queueList s.crt.queue = i :: rest) : routeCall p d n inb s = routeInbound p d cls inb i s := by
  have hd' : ¬ Config.lastDest < d := Nat.not_lt.2 hd
  simp only [routeCall, if_neg hd', hc, queueHead_eq, hq, List.head?_cons]

/-- A range fault is found before all else (R29). -/
theorem routeCall_badValue (h : 4095 < d ∨ 3 < n) : routeCall p d n inb s = (⟨.badValue, []⟩, s) := by
  unfold routeCall
  split
  · rfl
  · rename_i hd
    rw [classOf_eq_none (h.resolve_left hd)]
    rfl

/-- With no record free, a call with its fields in range is told ALL_BUSY (R26). -/
theorem routeCall_allBusy (hd : d ≤ 4095) (hc : classOf n = some cls) (hq : queueList s.crt.queue = []) :
    routeCall p d n inb s = (⟨.noRoute, [3]⟩, s) := by
  have hd' : ¬ Config.lastDest < d := Nat.not_lt.2 hd
  simp only [routeCall, if_neg hd', hc, queueHead_eq, hq, List.head?_nil]
  rfl

section Checks

variable {c g : Nat} {x : Group} (ht : s.TablesInv) (hp : s.PoolInv) (hc : c ≤ 16383) (hg : s.group g = some x)
  (hh : groupHolds c x = true) (hb : x.state ≠ .blocked) (hdir : x.direction ≠ .outgoing)

include ht hp hc hg hh hb hdir

/-- An IDLE circuit of a group that takes inbound traffic passes the checks of R29. -/
theorem checkInbound_idle (hst : (s.circuit c).state = .idle) : checkInbound s c = .ok (g, false) := by
  have hc' : ¬ Config.lastCircuit < c := Nat.not_lt.2 hc
  simp only [checkInbound, if_neg hc', groupOf_of_holds ht hp hg hh, hg, if_neg hb, if_neg hdir, hst]

/-- A RESERVED circuit under FAR_WINS passes the checks of R29, with glare. -/
theorem checkInbound_farWins (hst : (s.circuit c).state = .reserved) (hglare : x.glare = .farWins) :
    checkInbound s c = .ok (g, true) := by
  have hc' : ¬ Config.lastCircuit < c := Nat.not_lt.2 hc
  simp only [checkInbound, if_neg hc', groupOf_of_holds ht hp hg hh, hg, if_neg hb, if_neg hdir, hst, hglare]

end Checks

/-- A call without an inbound circuit, or with one that is IDLE and passes the checks of R29, and the plan that this leaves. -/
def State.Arrives (s : State) (inb : Option Nat) (plan : InboundPlan) : Prop :=
  (inb = none ∧ plan = .originating) ∨
    ∃ c g, inb = some c ∧ plan = .take g c ∧ checkInbound s c = .ok (g, false)

theorem routeInbound_of_arrives (h : s.Arrives inb plan) :
    routeInbound p d cls inb i s = routeWith p d cls plan i s := by
  rcases h with ⟨rfl, rfl⟩ | ⟨c, g, rfl, rfl, hok⟩
  · rfl
  · simp only [routeInbound, hok]

/-- Without a displacement a routing that fails has nothing to give back. -/
theorem dropInbound_of_arrives (h : s.Arrives inb plan) (t : State) : dropInbound plan t = t := by
  rcases h with ⟨-, rfl⟩ | ⟨c, g, -, rfl, -⟩ <;> rfl

theorem routeWith_error {e : Reason} {s' : State} (h : selectRoute d cls (planGroup plan) s = (.error e, s')) :
    routeWith p d cls plan i s = (⟨.noRoute, beBytes 1 (reasonCode e)⟩, dropInbound plan s') := by
  simp only [routeWith, h, Reply.noRoute]

theorem routeWith_ok {w : Winner} {s' : State} (h : selectRoute d cls (planGroup plan) s = (.ok w, s')) :
    routeWith p d cls plan i s = completeRoute p d cls plan i w s' := by
  simp only [routeWith, h]

end Steps

/-! ### The walk -/

section Walk

variable {s : State} {d : Nat} {cls : CallClass} {inbound : Option Nat}

theorem selectRoute_unroutable (h : (s.dest d).routes = []) :
    selectRoute d cls inbound s = (.error .unroutable, s) := by
  simp only [selectRoute, h, List.isEmpty_nil, if_true]

theorem selectRoute_gapped (hr : (s.dest d).routes ≠ []) (h : gapPasses s.now (s.dest d) cls = false) :
    selectRoute d cls inbound s = (.error .destGapped, s) := by
  simp [selectRoute, hr, h]

theorem selectRoute_walks (hr : (s.dest d).routes ≠ []) (h : gapPasses s.now (s.dest d) cls = true) :
    selectRoute d cls inbound s =
      ((walkFrom s cls inbound (candidates s (s.dest d)) ⟨[], false⟩ s.cmn.records).1,
        { s with cmn := { s.cmn with
          records := (walkFrom s cls inbound (candidates s (s.dest d)) ⟨[], false⟩ s.cmn.records).2 } }) := by
  simp [selectRoute, hr, h]

/-- The gap check holds back ORDINARY and LOW calls alone, until the next-admit time (R75). -/
theorem gapPasses_eq_true_iff (now : Nat) (x : Dest) (cls : CallClass) : gapPasses now x cls = true ↔
    x.restriction = none ∨ cls = .emergency ∨ cls = .priority ∨
      ∃ y, x.restriction = some y ∧ y.nextAdmit ≤ now := by
  unfold gapPasses
  cases x.restriction with
  | none => simp
  | some y => cases cls <;> simp

theorem gapPasses_eq_false {now : Nat} {x : Dest} {y : Restriction} (hy : x.restriction = some y)
    (hc : cls = .ordinary ∨ cls = .low) (hlt : now < y.nextAdmit) : gapPasses now x cls = false := by
  rw [Bool.eq_false_iff, ne_eq, gapPasses_eq_true_iff]
  rintro (hn | rfl | rfl | ⟨y', hy', hle⟩)
  · rw [hy] at hn; cases hn
  · simp at hc
  · simp at hc
  · obtain rfl := Option.some.inj (hy.symm.trans hy')
    exact Nat.not_lt.2 hle hlt

/-- An examination counted leaves every level. -/
theorem countOn_level (records : Table CongestionRecord) (g : Nat) (refused : Bool) (g' : Nat) :
    (Table.get CongestionRecord.zero (countOn records g refused) g').level
      = (Table.get CongestionRecord.zero records g').level := by
  rw [countOn, Table.get_set]
  split
  · rename_i h
    rw [h, countExamination]
  · rfl

theorem walkFrom_level (s : State) (cls : CallClass) (inbound : Option Nat) (l : List Candidate) (t : Tally)
    (records : Table CongestionRecord) (g : Nat) :
    (Table.get CongestionRecord.zero (walkFrom s cls inbound l t records).2 g).level
      = (Table.get CongestionRecord.zero records g).level := by
  induction l generalizing t records with
  | nil => rfl
  | cons c rest ih =>
    rw [walkFrom]
    split
    · exact ih _ _
    · split
      · exact countOn_level _ _ _ _
      · rw [ih, countOn_level]

/-- The walk leaves every level, which its admissions read (R64, R67). -/
theorem selectRoute_level {s' : State} {e : Except Reason Winner} (h : selectRoute d cls inbound s = (e, s'))
    (g : Nat) : (s'.congestion g).level = (s.congestion g).level := by
  rw [show s' = (selectRoute d cls inbound s).2 by rw [h], selectRoute]
  simp only
  split
  · rfl
  · split
    · rfl
    · exact walkFrom_level _ _ _ _ _ _ g

end Walk

/-! ### The admission -/

section Admission

variable {s : State} {p : PortId} {d i : Nat} {cls : CallClass} {plan : InboundPlan} {w : Winner} {x : Group}

/-- The inbound circuit taken: it is BUSY, and the other circuits are left. -/
theorem takeInbound_circuit (hp : s.PlanOk plan) (c : Nat) : (takeInbound plan s).circuit c =
    if c ∈ planCircuits plan then { s.circuit c with state := .busy } else s.circuit c := by
  cases plan with
  | originating => rfl
  | take g c' =>
    obtain ⟨r, hg, -⟩ := hp
    simp only [takeInbound, inboundTake_circuit g c' s r hg, planCircuits, List.mem_singleton]
    split
    · rename_i h
      rw [h]
    · rfl
  | displaced g c' =>
    simp only [takeInbound, holdCircuit_circuit, planCircuits, List.mem_singleton]
    split
    · rename_i h
      rw [h]
    · rfl

@[simp] theorem takeInbound_crt (plan : InboundPlan) (s : State) : (takeInbound plan s).crt = s.crt :=
  (takeInbound_sameBut s plan).crt.resolve_left (by decide)
@[simp] theorem takeInbound_rse (plan : InboundPlan) (s : State) : (takeInbound plan s).rse = s.rse :=
  (takeInbound_sameBut s plan).rse.resolve_left (by decide)
@[simp] theorem outboundHunt_rse (g c : Nat) (s : State) : (outboundHunt g c s).rse = s.rse :=
  (outboundHunt_sameBut s g c).rse.resolve_left (by decide)

theorem State.PoolHand.mark_of_not_held {L : List Nat} {c : Nat} (h : s.PoolHand L)
    (hc : (s.circuit c).held = false) : (s.circuit c).mark = false :=
  Bool.eq_false_iff.2 fun hm => by rw [h.marks c hm] at hc; cases hc

/-- The winning group gives up its head circuit; the other groups are as taking the inbound circuit left them (R17, R65). -/
theorem completeRoute_group (hw : s.Wins (planGroup plan) w x) (g : Nat) :
    (completeRoute p d cls plan i w s).2.group g =
      if g = w.group then some { x with freeList := x.freeList.tail, busy := x.busy + 1 }
      else (takeInbound plan s).group g := by
  simp [completeRoute, settleDest, outboundHunt_group, takeInbound_group hw.apart, hw.group]

/-- The winning circuit is RESERVED and the inbound circuit BUSY. -/
theorem completeRoute_circuit (h : s.PoolHand (planHand plan)) (hp : s.PlanOk plan)
    (hw : s.Wins (planGroup plan) w x) (c : Nat) : (completeRoute p d cls plan i w s).2.circuit c =
      if c = w.circuit then ⟨.reserved, false⟩
      else if c ∈ planCircuits plan then { s.circuit c with state := .busy } else s.circuit c := by
  have hg : (takeInbound plan s).group w.group = some x := (takeInbound_group hw.apart).trans hw.group
  have hidle := (h.of_head hw.group hw.head).2
  have hmark : (s.circuit w.circuit).mark = false := h.mark_of_not_held ((held_eq_false_iff _).2 (.inl hidle))
  have hne : w.circuit ∉ planCircuits plan := (takeInbound_poolHand h hp).1.head_not_mem hg hw.head
  show (outboundHunt w.group w.circuit (takeInbound plan s)).circuit c = _
  simp only [outboundHunt_circuit _ _ _ _ hg, takeInbound_circuit hp, if_neg hne, hmark]

theorem completeRoute_call (k : Nat) : (completeRoute p d cls plan i w s).2.call k =
    if k = i then some (routedRecord s p d cls plan w) else s.call k := by
  simp [completeRoute, settleDest, makeRecord_call]

theorem completeRoute_gen (k : Nat) : (completeRoute p d cls plan i w s).2.gen k = s.gen k := by
  show (outboundHunt w.group w.circuit (takeInbound plan s)).gen k = _
  simp [State.gen]

theorem completeRoute_queue :
    queueList (completeRoute p d cls plan i w s).2.crt.queue = (queueList s.crt.queue).tail := by
  simp [completeRoute, settleDest, makeRecord, queuePop_list]

theorem completeRoute_guardSeconds : (completeRoute p d cls plan i w s).2.crt.guardSeconds = s.crt.guardSeconds := by
  simp [completeRoute, settleDest, makeRecord]

theorem completeRoute_dest {d' : Nat} (h : d' ≠ d) : (completeRoute p d cls plan i w s).2.dest d' = s.dest d' := by
  rw [completeRoute, settleDest, State.setDest_dest, if_neg h]
  show (outboundHunt w.group w.circuit (takeInbound plan s)).dest d' = _
  simp [State.dest]

theorem completeRoute_rse : (completeRoute p d cls plan i w s).2.rse
    = { s.rse with dests := (completeRoute p d cls plan i w s).2.rse.dests } := by
  simp [completeRoute, settleDest, makeRecord, State.setDest]

/-- The record made depends on the pool, the agreements, the levels and the clock alone. -/
theorem routedRecord_congr {t : State} (hcpl : t.cpl = s.cpl) (hcau : t.cau = s.cau) (htmb : t.tmb = s.tmb)
    (hguard : t.crt.guardSeconds = s.crt.guardSeconds)
    (hlevel : ∀ g, (t.congestion g).level = (s.congestion g).level) :
    routedRecord t p d cls plan w = routedRecord s p d cls plan w := by
  have hcarrier : ∀ g, t.carrierOf g = s.carrierOf g := fun g => by
    simp only [State.carrierOf, State.group, hcpl]
  have hagree : ∀ n, t.agreement n = s.agreement n := fun n => by simp only [State.agreement, hcau]
  have hpay : ∀ g, payableSlot t g = payableSlot s g := fun g => by simp only [payableSlot, hcarrier, hagree]
  have hrecv : ∀ g, receivableSlot t g = receivableSlot s g := fun g => by
    simp only [receivableSlot, receivableFor, hcarrier, hagree]
  have hin : planInbound t plan = planInbound s plan := by
    cases plan <;> simp only [planInbound, inboundSide, hlevel, hrecv]
  simp only [routedRecord, outboundOf, hin, hlevel, hpay, State.guardDeadline, State.now, htmb, hguard]

/-- The inbound side that R28 and R113 describe. -/
theorem inboundSide_eq {g : Nat} (hg : s.group g = some x) (c : Nat) : inboundSide s g c =
    ⟨g, c, (s.congestion g).level, if x.carrier = 0 then none
      else some (match (s.agreement x.carrier).state with | .confirmed m => m | _ => 0)⟩ := by
  have hfor : receivableFor s x.carrier
      = match (s.agreement x.carrier).state with | .confirmed m => m | _ => 0 := by
    unfold receivableFor
    cases (s.agreement x.carrier).state <;> rfl
  rw [inboundSide, receivableSlot, carrierOf_some hg, hfor]

/-- The outbound side that R28, R63 and R112 describe. -/
theorem outboundOf_eq (cls : CallClass) (hg : s.group w.group = some x) : outboundOf s cls w =
    { group := w.group, circuit := w.circuit, rank := w.rank,
      firstChoice := decide (w.rank = 0 ∨ cls = .priority), level := (s.congestion w.group).level,
      payable := if x.carrier = 0 then none else agreedSlot (s.agreement x.carrier).state } := by
  rw [outboundOf, payableSlot, carrierOf_some hg, firstChoiceFlag, Bool.decide_or]

end Admission

/-! ### What the walk leaves of the state -/

/-- State `t` is `s` but for the counts of a walk, which leave every level (R67, R85). -/
structure State.Counted (s t : State) : Prop where
  same : s.SameBut [.cmn] t
  level : ∀ g, (t.congestion g).level = (s.congestion g).level

theorem selectRoute_counted {s s' : State} {d : Nat} {cls : CallClass} {inbound : Option Nat}
    {e : Except Reason Winner} (h : selectRoute d cls inbound s = (e, s')) : s.Counted s' := by
  have hsame := selectRoute_sameBut s d cls inbound
  rw [h] at hsame
  exact ⟨hsame, selectRoute_level h⟩

namespace State.Counted

variable {s t : State} (h : s.Counted t)
include h

theorem pct : t.pct = s.pct := h.same.pct.resolve_left (by decide)
theorem cpl : t.cpl = s.cpl := h.same.cpl.resolve_left (by decide)
theorem crt : t.crt = s.crt := h.same.crt.resolve_left (by decide)
theorem rse : t.rse = s.rse := h.same.rse.resolve_left (by decide)
theorem cau : t.cau = s.cau := h.same.cau.resolve_left (by decide)
theorem tmb : t.tmb = s.tmb := h.same.tmb.resolve_left (by decide)
theorem group (g : Nat) : t.group g = s.group g := by rw [State.group, State.group, h.cpl]
theorem circuit (c : Nat) : t.circuit c = s.circuit c := by rw [State.circuit, State.circuit, h.cpl]
theorem call (k : Nat) : t.call k = s.call k := by rw [State.call, State.call, h.crt]
theorem gen (k : Nat) : t.gen k = s.gen k := by rw [State.gen, State.gen, h.crt]
theorem dest (d : Nat) : t.dest d = s.dest d := by rw [State.dest, State.dest, h.rse]

theorem isConfirmed (n : Nat) : t.isConfirmed n = s.isConfirmed n := by
  simp only [State.isConfirmed, State.agreement, h.cau]

theorem poolHand {L : List Nat} (hp : s.PoolHand L) : t.PoolHand L := hp.congr h.group h.circuit h.call

theorem wins {inbound : Option Nat} {w : Winner} {x : Group} (hw : s.Wins inbound w x) : t.Wins inbound w x :=
  ⟨(h.group _).trans hw.group, hw.inService, hw.apart, by rw [h.isConfirmed]; exact hw.carrier, hw.head⟩

theorem planOk {plan : InboundPlan} (hp : s.PlanOk plan) : t.PlanOk plan := by
  cases plan with
  | originating => trivial
  | take g c =>
    obtain ⟨r, hg, hh, hi, hb⟩ := hp
    exact ⟨r, (h.group g).trans hg, hh, by rwa [h.circuit], hb⟩
  | displaced g c =>
    obtain ⟨r, hg, hh⟩ := hp
    exact ⟨r, (h.group g).trans hg, hh⟩

theorem routedRecord (p : PortId) (d : Nat) (cls : CallClass) (plan : InboundPlan) (w : Winner) :
    Machine.routedRecord t p d cls plan w = Machine.routedRecord s p d cls plan w :=
  routedRecord_congr h.cpl h.cau h.tmb (by rw [h.crt]) h.level

end State.Counted

/-! ### The call that arrives without glare -/

/-- A call without an inbound circuit or with an IDLE one: the inbound side that its record has, and the plan that R29 leaves. -/
structure State.Brings (s : State) (inb : Option Nat) (side : Option Inbound) (plan : InboundPlan) : Prop where
  arrives : s.Arrives inb plan
  ok : s.PlanOk plan
  hand : planHand plan = []
  inbound : planInbound s plan = side
  group : planGroup plan = side.map fun b => b.group
  circuits : planCircuits plan = inb.toList
  unmarked : ∀ c, inb = some c → (s.circuit c).mark = false
  taken : ∀ b, side = some b → ∀ t : State,
    (takeInbound plan t).group b.group = (t.group b.group).map (Group.seized b.circuit)

theorem brings_originating (s : State) : s.Brings none none .originating :=
  ⟨.inl ⟨rfl, rfl⟩, trivial, rfl, rfl, rfl, rfl, fun _ h => (by cases h), fun _ h => (by cases h)⟩

theorem brings_idle {s : State} {c g : Nat} {x : Group} (ht : s.TablesInv) (hp : s.PoolInv) (hc : c ≤ 16383)
    (hg : s.group g = some x) (hh : groupHolds c x = true) (hb : x.state ≠ .blocked) (hdir : x.direction ≠ .outgoing)
    (hst : (s.circuit c).state = .idle) : s.Brings (some c) (some (inboundSide s g c)) (.take g c) where
  arrives := .inr ⟨c, g, rfl, rfl, checkInbound_idle ht hp hc hg hh hb hdir hst⟩
  ok := ⟨x, hg, hh, hst, hb⟩
  hand := rfl
  inbound := rfl
  group := rfl
  circuits := rfl
  unmarked := fun c' h => by
    obtain rfl := Option.some.inj h
    exact hp.mark_of_not_held ((held_eq_false_iff _).2 (.inl hst))
  taken := fun b h t => by
    obtain rfl := Option.some.inj h
    exact (inboundTake_group g c t g).trans (if_pos rfl)

/-- An admitted ROUTE without glare is answered ROUTED with the state that the admission leaves. -/
theorem routeCall_admitted {s s' : State} {p : PortId} {d n i : Nat} {cls : CallClass} {inb : Option Nat}
    {plan : InboundPlan} {rest : List Nat} {w : Winner} (hd : d ≤ 4095) (hcls : classOf n = some cls)
    (hq : queueList s.crt.queue = i :: rest) (ha : s.Arrives inb plan)
    (hsel : selectRoute d cls (planGroup plan) s = (.ok w, s')) :
    routeCall p d n inb s = (routedReply i (s'.gen i) w, (completeRoute p d cls plan i w s').2) :=
  (routeCall_eq hd hcls hq).trans ((routeInbound_of_arrives ha).trans (routeWith_ok hsel))

/-- Settles O33: the walk changes nothing that the admission reads, and the admission changes the inbound circuit, the winning circuit, the record and the destination alone. -/
theorem admittedRouteMakesTheRecord : Obligations.AdmittedRouteMakesTheRecord := by
  intro r d n i cls inb side rest s s' w h ht hp hd hcls hq hside hsel
  obtain ⟨plan, hbr⟩ : ∃ plan, s.Brings inb side plan := by
    rcases hside with ⟨rfl, rfl⟩ | ⟨c, g, x, rfl, hc, hg, hh, hb, hdir, hst, rfl⟩
    · exact ⟨_, brings_originating s⟩
    · have hbrings := brings_idle ht hp hc hg hh hb hdir hst
      rw [inboundSide_eq hg c] at hbrings
      exact ⟨_, hbrings⟩
  rw [← hbr.group] at hsel ⊢
  obtain ⟨x, hw⟩ := selectRoute_wins hsel
  have hcount := selectRoute_counted hsel
  have hroute := routeCall_admitted (p := r.port) hd hcls hq hbr.arrives hsel
  have hw' := hcount.wins hw
  have hhand : s'.PoolHand (planHand plan) := by
    rw [hbr.hand]
    exact hcount.poolHand ((poolHand_nil_iff s).2 hp)
  have hsame := completeRoute_sameBut s' r.port d cls plan i w
  refine ⟨_, x, serve_eq h _ hroute, hw.group, hw.head, hw.apart, ?_, fun k hk => ?_, fun k => ?_, ?_, ?_, ?_,
    fun b hb => ?_, fun g hg hside' => ?_, fun c => ?_, fun d' hd' => ?_, ?_, ?_, ?_, ?_⟩
  · rw [State.deliver_call, completeRoute_call, if_pos rfl, hcount.routedRecord, routedRecord, hbr.inbound,
      outboundOf_eq cls hw.group]
    rfl
  · rw [State.deliver_call, completeRoute_call, if_neg hk, hcount.call]
  · rw [State.deliver_gen, completeRoute_gen, hcount.gen]
  · rw [State.deliver_crt, completeRoute_queue, hcount.crt, hq, List.tail_cons]
  · rw [State.deliver_crt, completeRoute_guardSeconds, hcount.crt]
  · rw [State.deliver_group, completeRoute_group hw', if_pos rfl]
  · have hne : b.group ≠ w.group := fun he => hw.apart (by rw [hbr.group, hb, Option.map_some, he])
    rw [State.deliver_group, completeRoute_group hw', if_neg hne, hbr.taken b hb, hcount.group]
    rfl
  · rw [State.deliver_group, completeRoute_group hw', if_neg hg, takeInbound_group hside', hcount.group]
  · simp only [State.deliver_circuit, completeRoute_circuit hhand (hcount.planOk hbr.ok) hw', hbr.circuits,
      Option.mem_toList, hcount.circuit]
    refine if_congr Iff.rfl rfl ?_
    split
    · rename_i hc
      exact congrArg (Circuit.mk .busy) (hbr.unmarked c hc)
    · rfl
  · rw [State.deliver_dest, completeRoute_dest hd', hcount.dest]
  · rw [State.deliver_rse, ← hcount.rse]
    exact completeRoute_rse
  · rw [State.deliver_cmn]
    exact hsame.cmn.resolve_left (by decide)
  · exact ((hcount.same.mono (by simp)).trans (hsame.mono (by simp))).deliver (by simp) r _ _
  · rw [← hcount.gen]
    exact deliver_pct_congr ((hsame.pct.resolve_left (by decide)).trans hcount.pct) r _ _

/-- Settles O34: without glare, each refusal before the walk changes nothing, and a walk that fails changes its counts alone. -/
theorem refusedRouteChangesNothing : Obligations.RefusedRouteChangesNothing := by
  intro r d n inb s h
  refine ⟨fun hbad => serve_eq h _ (routeCall_badValue hbad), fun cls hd hn => ?_⟩
  have hcls : classOf n = some cls := hn ▸ classOf_classCode cls
  refine ⟨fun hq => serve_eq h _ (routeCall_allBusy hd hcls hq), fun grp hq hinb => ?_⟩
  obtain ⟨i, rest, hq⟩ := List.exists_cons_of_ne_nil hq
  obtain ⟨plan, ha, rfl⟩ : ∃ plan, s.Arrives inb plan ∧ planGroup plan = grp := by
    rcases hinb with ⟨rfl, rfl⟩ | ⟨ht, hp, c, g, x, rfl, hc, hg, hh, hb, hdir, hst, rfl⟩
    · exact ⟨_, (brings_originating s).arrives, rfl⟩
    · exact ⟨_, (brings_idle ht hp hc hg hh hb hdir hst).arrives, rfl⟩
  have hfails : ∀ e s', selectRoute d cls (planGroup plan) s = (.error e, s') →
      exec (.route r d n inb) s
        = .next (s'.deliver r (.route r d n inb) ⟨.noRoute, beBytes 1 (reasonCode e)⟩) := fun e s' hsel =>
    serve_eq h _ ((routeCall_eq hd hcls hq).trans ((routeInbound_of_arrives ha).trans
      ((routeWith_error hsel).trans (by rw [dropInbound_of_arrives ha]))))
  refine ⟨fun hr => hfails _ _ (selectRoute_unroutable hr),
    fun x hr hx hc hlt => hfails _ _ (selectRoute_gapped hr (gapPasses_eq_false hx hc hlt)),
    fun hr hgap e records' hwalk => hfails e _ ?_⟩
  rw [selectRoute_walks hr ((gapPasses_eq_true_iff _ _ _).2 hgap), hwalk]

end Sys2Proof.Machine
end

section
/-! SUPPORT. Glare under FAR_WINS (R31, R32): the displacement of the record that reserves the circuit, the walk that follows it, and what becomes of the circuit. -/

namespace Sys2Proof.Machine

open Sys2Proof

/-! ### What the walk reads -/

section WalkCongr

variable {s t : State} {d : Nat} {cls : CallClass} {inbound : Option Nat}

theorem eligible_congr (hcpl : t.cpl = s.cpl) (hcau : t.cau = s.cau) (examined : List Nat) (c : Candidate) :
    eligible t inbound examined c = eligible s inbound examined c := by
  have hgroup : t.group = s.group := funext fun g => by rw [State.group, State.group, hcpl]
  have hconfirmed : t.isConfirmed = s.isConfirmed := funext fun n => by
    simp only [State.isConfirmed, State.agreement, hcau]
  rw [eligible, eligible, hgroup, hconfirmed]

theorem admittedHead_congr (hcmn : t.cmn = s.cmn) (c : Candidate) (x : Group) :
    admittedHead t cls c x = admittedHead s cls c x := by
  rw [admittedHead, admittedHead, State.congestion, State.congestion, hcmn]

/-- The walk reads the pool, the agreements and the levels (R61 to R64). -/
theorem walkFrom_congr (hcpl : t.cpl = s.cpl) (hcau : t.cau = s.cau) (hcmn : t.cmn = s.cmn) (l : List Candidate)
    (tally : Tally) (records : Table CongestionRecord) :
    walkFrom t cls inbound l tally records = walkFrom s cls inbound l tally records := by
  induction l generalizing tally records with
  | nil => rfl
  | cons c rest ih => simp only [walkFrom, eligible_congr hcpl hcau, admittedHead_congr hcmn, ih]

theorem candidates_congr (hrse : t.rse = s.rse) (x : Dest) : candidates t x = candidates s x := by
  have hyields : ∀ y, yieldsOf t y = yieldsOf s y := fun y => by
    cases y <;> simp only [yieldsOf, State.routeSet, hrse]
  have hat : candidatesAt t x = candidatesAt s x := funext fun i => by simp only [candidatesAt, hyields]
  simp only [candidates, hat]

/-- The route selected, and the counts of its walk, do not depend on the ports and the call records. -/
theorem selectRoute_congr (hcpl : t.cpl = s.cpl) (hrse : t.rse = s.rse) (hcmn : t.cmn = s.cmn)
    (hcau : t.cau = s.cau) (htmb : t.tmb = s.tmb) {res : Except Reason Winner} {s' : State}
    (h : selectRoute d cls inbound s = (res, s')) :
    selectRoute d cls inbound t = (res, { t with cmn := s'.cmn }) := by
  have hdest : t.dest d = s.dest d := by simp only [State.dest, hrse]
  have hnow : t.now = s.now := by simp only [State.now, htmb]
  unfold selectRoute at h ⊢
  simp only [hdest, hnow, candidates_congr hrse, walkFrom_congr hcpl hcau hcmn] at h ⊢
  split at h
  · rename_i hr
    obtain ⟨rfl, rfl⟩ := Prod.mk.inj h
    rw [if_pos hr, ← hcmn]
  · rename_i hr
    rw [if_neg hr]
    split at h
    · rename_i hgap
      obtain ⟨rfl, rfl⟩ := Prod.mk.inj h
      rw [if_pos hgap, ← hcmn]
    · rename_i hgap
      obtain ⟨rfl, rfl⟩ := Prod.mk.inj h
      rw [if_neg hgap, hcmn]

end WalkCongr

/-! ### The displacement -/

/-- Record `j`, which was `o`, is displaced in `t`, and its owner told; the rest is as it was in `s` (R31). -/
structure State.Displaced (s : State) (j : Nat) (o : CallRecord) (t : State) : Prop where
  calls : ∀ k, t.call k = if k = j then some (displacedRecord s o) else s.call k
  gens : t.crt.gens = s.crt.gens
  queue : t.crt.queue = s.crt.queue
  guardSeconds : t.crt.guardSeconds = s.crt.guardSeconds
  pct : t.pct = (s.raiseTo o.owner (.displaced j (s.gen j))).pct
  same : s.SameBut [.pct, .crt] t

section Displacement

variable {s : State} {c j : Nat} {o : CallRecord}

theorem displace_displaced (ht : s.TablesInv) (hp : s.PoolInv) (hj : s.call j = some o) (hm : c ∈ o.circuits)
    (hst : (s.circuit c).state = .reserved) : s.Displaced j o (displace c s) := by
  have hsame := displace_sameBut s c
  rw [displace_eq ht hp hj hm hst] at hsame ⊢
  exact ⟨fun k => State.setCall_call s j _ k, rfl, rfl, rfl, raiseTo_pct_congr rfl rfl _ _, hsame⟩

/-- A group that holds a held circuit counts it (R5). -/
theorem busy_pos_of_held {g : Nat} {x : Group} (hp : s.PoolInv) (hg : s.group g = some x)
    (hh : groupHolds c x = true) (hc : (s.circuit c).held = true) : 0 < x.busy := by
  rw [(hp.groups g x hg).busy]
  exact List.countP_pos_iff.2 ⟨c, (mem_circuitRange c x).2 hh, hc⟩

end Displacement

namespace State.Displaced

variable {s t : State} {j : Nat} {o : CallRecord} (h : s.Displaced j o t)
include h

theorem cpl : t.cpl = s.cpl := h.same.cpl.resolve_left (by decide)
theorem rse : t.rse = s.rse := h.same.rse.resolve_left (by decide)
theorem cmn : t.cmn = s.cmn := h.same.cmn.resolve_left (by decide)
theorem cau : t.cau = s.cau := h.same.cau.resolve_left (by decide)
theorem tmb : t.tmb = s.tmb := h.same.tmb.resolve_left (by decide)
theorem group (g : Nat) : t.group g = s.group g := by rw [State.group, State.group, h.cpl]
theorem circuit (c : Nat) : t.circuit c = s.circuit c := by rw [State.circuit, State.circuit, h.cpl]
theorem gen (k : Nat) : t.gen k = s.gen k := by rw [State.gen, State.gen, h.gens]

theorem routedRecord (p : PortId) (d : Nat) (cls : CallClass) (plan : InboundPlan) (w : Winner) :
    Machine.routedRecord t p d cls plan w = Machine.routedRecord s p d cls plan w :=
  routedRecord_congr h.cpl h.cau h.tmb h.guardSeconds fun g => by rw [State.congestion, State.congestion, h.cmn]

end State.Displaced

/-! ### The two ends of the routing that follows -/

section Ends

variable {s u u' : State} {c g i j : Nat} {x : Group} {o : CallRecord}

/-- The circuit freed after a walk that failed raises the drain that this completes (R13, R32). -/
theorem freeCircuit_displaced_pct (hp : s.PoolInv) (hg : s.group g = some x) (hh : groupHolds c x = true)
    (hst : (s.circuit c).state = .reserved) (hdis : s.Displaced j o u) (hcount : u.Counted u') :
    (freeCircuit g c u').pct = ((s.raiseTo o.owner (.displaced j (s.gen j))).raiseEach
      (if x.state = .draining ∧ x.busy = 1 then [.groupDrained g] else [])).pct := by
  have hdrain : (x.state = .draining ∧ x.busy = 1) ↔ completesDrain x = true := by
    have hbusy := busy_pos_of_held hp hg hh ((held_iff _).2 (.inl hst))
    rw [completesDrain_iff]
    exact and_congr_right fun _ => by omega
  have hgroup : (u'.group g).any completesDrain = completesDrain x := by
    rw [hcount.group, hdis.group, hg, Option.any_some]
  rw [freeCircuit_pct, hgroup, if_congr hdrain rfl rfl]
  exact raiseIf_pct_congr (hcount.pct.trans hdis.pct) (hcount.tmb.trans hdis.tmb) _ _

end Ends

/-- Settles O36: the walk reads nothing that the displacement changes, so its outcome is that of the walk before it; either the circuit in hand is freed, or it passes to the new record. -/
theorem farWinsGlareDisplaces : Obligations.FarWinsGlareDisplaces := by
  intro r d n c g i j cls s s' x o rest res h ht hp hqi hd hcls hq hc hg hh hb hdir hst hglare hj hm hsel
  have hdis := displace_displaced ht hp hj hm hst
  have hsel' := selectRoute_congr hdis.cpl hdis.rse hdis.cmn hdis.cau hdis.tmb hsel
  have hcount := selectRoute_counted hsel'
  have hroute : routeCall r.port d n (some c) s = routeWith r.port d cls (.displaced g c) i (displace c s) := by
    rw [routeCall_eq hd hcls hq]
    simp only [routeInbound, checkInbound_farWins ht hp hc hg hh hb hdir hst hglare]
  have hfree : s.call i = none := ((hqi.free i).1 (by rw [hq]; exact List.mem_cons_self)).2
  have hij : i ≠ j := fun he => by rw [← he, hfree] at hj; cases hj
  have hcalls : ∀ k, State.call { displace c s with cmn := s'.cmn } k = _ := fun k => hdis.calls k
  cases res with
  | error e =>
    have hexec : exec (.route r d n (some c)) s = _ := serve_eq h _ (hroute.trans (routeWith_error hsel'))
    refine ⟨_, hexec, ?_, fun k hki hkj => ?_, fun k => ?_, ?_, exec_sameBut hexec, fun e' he => ?_,
      fun w hw => (by cases hw)⟩
    · rw [State.deliver_call, dropInbound, freeCircuit_call, hcalls, if_pos rfl]
      rfl
    · rw [State.deliver_call, dropInbound, freeCircuit_call, hcalls, if_neg hkj]
    · rw [State.deliver_gen, dropInbound, State.gen, freeCircuit_crt]
      exact hdis.gen k
    · rw [State.deliver_cmn]
      exact (freeCircuit_sameBut _ g c).cmn.resolve_left (by decide)
    · obtain rfl := Except.error.inj he
      refine ⟨?_, ?_, ?_, ?_, fun g' hne => ?_, fun c' => ?_,
        deliver_pct_congr (freeCircuit_displaced_pct hp hg hh hst hdis hcount) r _ _⟩
      · rw [State.deliver_call, dropInbound, freeCircuit_call, hcalls, if_neg hij]
      · rw [State.deliver_crt, dropInbound, freeCircuit_crt, ← hq, ← hdis.queue]
      · rw [State.deliver_rse]
        exact ((freeCircuit_sameBut _ g c).rse.resolve_left (by decide)).trans hdis.rse
      · rw [State.deliver_group, dropInbound, freeCircuit_group, if_pos rfl, hcount.group, hdis.group, hg,
          hcount.circuit, hdis.circuit]
        rfl
      · rw [State.deliver_group, dropInbound, freeCircuit_group, if_neg hne, hcount.group, hdis.group]
      · rw [State.deliver_circuit, dropInbound, freeCircuit_circuit, hcount.circuit, hdis.circuit, hcount.circuit,
          hdis.circuit]
        rfl
  | ok w =>
    have hexec : exec (.route r d n (some c)) s = _ := serve_eq (u := (completeRoute r.port d cls (.displaced g c) i w
      { displace c s with cmn := s'.cmn }).2) h _ (hroute.trans (routeWith_ok hsel'))
    obtain ⟨y, hw⟩ := selectRoute_wins hsel'
    have hw' := hcount.wins hw
    have hy : s.group w.group = some y := (hdis.group _).symm.trans hw.group
    have hne : g ≠ w.group := fun he => hw.apart (congrArg some he)
    have hhand := hcount.poolHand (displace_poolHand ht hp hst)
    have hok : (displace c s).PlanOk (.displaced g c) := ⟨x, (hdis.group g).trans hg, hh⟩
    have hsame := completeRoute_sameBut { displace c s with cmn := s'.cmn } r.port d cls (.displaced g c) i w
    refine ⟨_, hexec, ?_, fun k hki hkj => ?_, fun k => ?_, ?_, exec_sameBut hexec, fun e he => (by cases he),
      fun w' he => ?_⟩
    · rw [State.deliver_call, completeRoute_call, if_neg hij.symm, hcalls, if_pos rfl]
      rfl
    · rw [State.deliver_call, completeRoute_call, if_neg hki, hcalls, if_neg hkj]
    · rw [State.deliver_gen, completeRoute_gen, hcount.gen, hdis.gen]
    · rw [State.deliver_cmn]
      exact hsame.cmn.resolve_left (by decide)
    · obtain rfl := Except.ok.inj he
      refine ⟨y, hy, hw.head, ?_, ?_, ?_, ?_, hne.symm, ?_, fun g' hg' => ?_, fun c' => ?_, ?_⟩
      · rw [State.deliver_call, completeRoute_call, if_pos rfl, hcount.routedRecord, hdis.routedRecord, routedRecord,
          planInbound, inboundSide_eq hg, outboundOf_eq cls hy]
        rfl
      · rw [State.deliver_crt, completeRoute_queue, hcount.crt, hdis.queue, hq, List.tail_cons]
      · rw [State.deliver_crt, completeRoute_guardSeconds, hcount.crt, hdis.guardSeconds]
      · rw [State.deliver_group, completeRoute_group hw', if_neg hne, takeInbound, holdCircuit_group, hcount.group,
          hdis.group]
      · rw [State.deliver_group, completeRoute_group hw', if_pos rfl]
      · rw [State.deliver_group, completeRoute_group hw', if_neg hg', takeInbound, holdCircuit_group, hcount.group,
          hdis.group]
      · simp only [State.deliver_circuit, completeRoute_circuit hhand (hcount.planOk hok) hw', planCircuits,
          List.mem_singleton, hcount.circuit, hdis.circuit]
        refine if_congr Iff.rfl rfl ?_
        split
        · rename_i hc'
          rw [hc']
        · rfl
      · rw [← hdis.gen i, ← hcount.gen i]
        exact deliver_pct_congr ((hsame.pct.resolve_left (by decide)).trans (hcount.pct.trans hdis.pct)) r _ _

end Sys2Proof.Machine
end

section
/-! SUPPORT. The state after reset (R7, R25, R42, R46, R58, R84, R102, R116, R134, R156, R157, R177): what each table reads as, and the invariants that it meets. -/

namespace Sys2Proof.Machine

open Sys2Proof

/-! ### Ports after reset -/

theorem resetRoles_port (r0 r1 r2 r3 : Role) (p : PortId) :
    ∃ role, (State.resetRoles r0 r1 r2 r3).port p = Port.reset role := by
  cases p
  · exact ⟨r0, rfl⟩
  · exact ⟨r1, rfl⟩
  · exact ⟨r2, rfl⟩
  · exact ⟨r3, rfl⟩

theorem reset_port (p : PortId) : State.reset.port p = Port.reset .both := by
  cases p <;> rfl

/-- After reset no notice category is masked (R177). -/
theorem maskAdmits_reset (role : Role) (b : NoticeBody) : maskAdmits (Port.reset role) b = true := by
  have hcat : noticeCategory b < 6 := by cases b <;> simp [noticeCategory]
  rw [maskAdmits, Port.reset, BitVec.getLsbD_allOnes, decide_eq_true hcat]

/-- The role that two pins select, as R157 has it. -/
theorem roleOfPins_eq (x : PinPair) : roleOfPins x =
    if x.first then (if x.second then .both else .mgmt) else if x.second then .call else .off := by
  obtain ⟨a, b⟩ := x
  cases a <;> cases b <;> rfl

/-- A port just reset is empty, its link DOWN and its line LOST. -/
theorem portInv_reset (role : Role) : (Port.reset role).Inv where
  fifo_length := Nat.zero_le _
  stage_noHead := ⟨fun _ => rfl, fun _ => rfl⟩
  stage_checked := fun h => (by cases h)
  holds := Nat.zero_le _
  served := rfl
  notices_length := Nat.zero_le _
  attention := rfl
  down := fun _ => ⟨rfl, rfl, rfl⟩
  up := fun h => (by cases h)
  permitted := fun _ _ h => (by cases h)
  waiting := fun _ _ h => (by cases h)
  offFlags := fun _ => ⟨rfl, rfl, rfl⟩
  detached := fun _ h => (by cases h)

/-- Settles O5: the reset state, read field by field. -/
theorem powerOnResetSetsEveryBlock : Obligations.PowerOnResetSetsEveryBlock := by
  intro pins s
  refine ⟨_, rfl, rfl, ?_, fun p => ?_, fun _ => rfl, fun _ => rfl, fun _ => ⟨rfl, rfl⟩, ?_, rfl,
    fun _ => ⟨rfl, fun k => BitVec.getLsbD_zero, rfl, rfl⟩, fun _ => rfl, rfl, fun _ => rfl, fun _ => ⟨rfl, rfl⟩, rfl,
    rfl, rfl, fun _ => rfl, fun _ _ => ⟨rfl, rfl⟩, rfl, rfl, rfl, rfl, fun k _ => by cases k <;> rfl, rfl, rfl, rfl,
    rfl, rfl, rfl, rfl⟩
  · rintro p x (⟨rfl, rfl⟩ | ⟨rfl, rfl⟩ | ⟨rfl, rfl⟩ | ⟨rfl, rfl⟩) <;> exact roleOfPins_eq _
  · obtain ⟨role, hport⟩ := resetRoles_port (roleOfPins pins.p0) (roleOfPins pins.p1) (roleOfPins pins.p2)
      (roleOfPins pins.p3) p
    have hport' : State.port { State.resetRoles (roleOfPins pins.p0) (roleOfPins pins.p1) (roleOfPins pins.p2)
        (roleOfPins pins.p3) with pending := s.pending } p = Port.reset role := by
      cases p <;> exact hport
    rw [hport']
    exact ⟨rfl, rfl, rfl, rfl, rfl, rfl, rfl, rfl, rfl, maskAdmits_reset role, rfl, rfl⟩
  · exact List.append_nil (List.range' 0 16384)

/-! ### The invariants after reset -/

theorem reset_portsInv : State.reset.PortsInv := fun p => by
  rw [reset_port]
  exact portInv_reset .both

theorem engineLoad_reset (role : Role) : (Port.reset role).engineLoad = 0 := rfl

theorem reset_engineInv : State.reset.EngineInv := by
  show (Port.reset .both).engineLoad + (Port.reset .both).engineLoad + (Port.reset .both).engineLoad
    + (Port.reset .both).engineLoad ≤ 1
  rw [engineLoad_reset]
  decide

theorem reset_clockInv : State.reset.ClockInv where
  running := Nat.zero_le _
  day := by decide
  second := Nat.zero_le _
  milli := Nat.zero_le _
  autoClose := fun _ h => (by cases h)
  goodSince := fun p => by rw [reset_port]; exact Nat.le_refl 0
  headAt := fun p => by rw [reset_port]; exact Nat.le_refl 0

theorem reset_deadlineInv : State.reset.DeadlineInv where
  guard := fun _ _ _ h => (by cases h)
  restriction := fun _ _ h => (by cases h)
  period := Nat.zero_le _
  link := fun p _ _ h => by rw [reset_port] at h; cases h

theorem settlementRecordInv_zero : SettlementRecord.zero.Inv :=
  ⟨Nat.zero_le _, Nat.zero_le _, Nat.zero_le _, Nat.zero_le _, Nat.zero_le _, Nat.zero_le _⟩

theorem reset_bankInv : State.reset.BankInv where
  active := ⟨0, ⟨0, 0⟩, rfl, by decide, rfl, rfl⟩
  amounts := fun k _ => by cases k <;> exact settlementRecordInv_zero

theorem agreementInv_reset : Agreement.reset.Inv := ⟨rfl, fun _ h => (by cases h), .inl rfl⟩

theorem destInv_reset : Dest.reset.Inv where
  length := Nat.zero_le _
  choices := fun _ h => (by cases h)
  orders := fun k => by
    have hrot : rotates Dest.reset k = false := BitVec.getLsbD_zero
    rw [hrot, if_neg Bool.false_ne_true]
    rfl

theorem reset_routeInv : State.reset.RouteInv where
  dests := fun _ => destInv_reset
  sets := fun _ => ⟨List.nodup_nil, Nat.zero_le _, fun _ h => (by cases h)⟩

theorem profileOk_reset : profileOk resetProfile := ⟨by decide, by decide, by decide⟩

theorem congestionRecordInv_zero : CongestionRecord.zero.Inv :=
  ⟨Nat.zero_le _, Nat.le_refl 0, Nat.zero_le _, Nat.le_refl 0, Nat.zero_le _⟩

theorem reset_congestionInv : State.reset.CongestionInv where
  records := fun _ => congestionRecordInv_zero
  undefined := fun _ _ => rfl
  profiles := fun _ => ⟨profileOk_reset, profileOk_reset⟩
  periods := by decide

theorem reset_tablesInv : State.reset.TablesInv := tablesInv_of_check _ (by decide)

/-- Settles O60: every table is empty, so each entry is the one that a table reads as where nothing is listed. -/
theorem resetMeetsEveryInvariant : Obligations.ResetMeetsEveryInvariant :=
  ⟨reset_portsInv, reset_engineInv, reset_clockInv, reset_deadlineInv, reset_bankInv, fun _ => agreementInv_reset,
    reset_routeInv, fun _ _ h => (by cases h), reset_tablesInv, queueInv_of_check _ (by decide) reset_tablesInv,
    resetRoles_poolInv _ _ _ _, reset_congestionInv⟩

end Sys2Proof.Machine
end

section
/-! SUPPORT. The canonical form of the tables (log entry 12) under each update of the state: an update that writes in a table's range keeps every table canonical. -/

namespace Sys2Proof.Machine

open Sys2Proof

/-! ### Tables -/

/-- A number that a canonical table lists lies in its range. -/
theorem Table.le_of_get_ne {α : Type} [DecidableEq α] {d : α} {last : Nat} {t : Table α}
    (h : Table.wf d last t = true) {k : Nat} (hk : Table.get d t k ≠ d) : k ≤ last :=
  (((Table.wf_iff d last t).1 h).2 _ ((Table.get_mem_or_default d t k).resolve_left hk)).1

/-- The entries that a canonical table has after a change, those equal to the default dropped, are canonical. -/
theorem Table.wf_filter_map {α : Type} [DecidableEq α] (d : α) (last : Nat) (t : Table α) (f : α → α)
    (h : Table.wf d last t = true) :
    Table.wf d last ((t.map fun e => (e.1, f e.2)).filter fun e => decide (e.2 ≠ d)) = true := by
  rw [Table.wf_iff] at h ⊢
  refine ⟨.filter _ (List.pairwise_map.2 h.1), fun e he => ?_⟩
  obtain ⟨hm, hd⟩ := List.mem_filter.1 he
  obtain ⟨a, ha, rfl⟩ := List.mem_map.1 hm
  exact ⟨(h.2 a ha).1, of_decide_eq_true hd⟩

section Updates

variable {s t : State}

/-- PCT, TMB and the queue of commands hold no table. -/
theorem State.TablesInv.of_sameBut (h : s.TablesInv) (hs : s.SameBut [.pct, .tmb] t) : t.TablesInv := by
  have ht : t = { s with pct := t.pct, tmb := t.tmb } := by
    obtain ⟨-, hcpl, hcrt, hrse, hcmn, hcau, hhru, hsts, -, hpending⟩ := hs
    cases s; cases t; simp_all
  rw [ht]
  exact { h with }

theorem State.TablesInv.of_pct (h : s.TablesInv) (hs : s.SameBut [.pct] t) : t.TablesInv :=
  h.of_sameBut (hs.mono (by simp))

theorem State.TablesInv.group_le (h : s.TablesInv) {g : Nat} {r : Group} (hg : s.group g = some r) :
    g ≤ Config.lastGroup :=
  Table.le_of_get_ne h.groups (by rw [← State.group, hg]; simp)

theorem State.TablesInv.call_le (h : s.TablesInv) {i : Nat} {r : CallRecord} (hi : s.call i = some r) :
    i ≤ Config.callRecords - 1 :=
  Table.le_of_get_ne h.calls (by rw [← State.call, hi]; simp)

theorem setGroup_tablesInv (h : s.TablesInv) {g : Nat} (hg : g ≤ Config.lastGroup) (r : Option Group) :
    (s.setGroup g r).TablesInv :=
  { h with groups := Table.wf_set _ _ _ _ _ h.groups hg }

theorem setCircuit_tablesInv (h : s.TablesInv) {c : Nat} (hc : c ≤ Config.lastCircuit) (v : Circuit) :
    (s.setCircuit c v).TablesInv :=
  { h with circuits := Table.wf_set _ _ _ _ _ h.circuits hc }

theorem setCall_tablesInv (h : s.TablesInv) {i : Nat} (hi : i ≤ Config.callRecords - 1) (r : Option CallRecord) :
    (s.setCall i r).TablesInv :=
  { h with calls := Table.wf_set _ _ _ _ _ h.calls hi }

theorem setDest_tablesInv (h : s.TablesInv) {d : Nat} (hd : d ≤ Config.lastDest) {r : Dest}
    (hr : Table.wf [] 7 r.orders = true) : (s.setDest d r).TablesInv :=
  { h with
    dests := Table.wf_set _ _ _ _ _ h.dests hd
    orders := fun n => by
      rw [State.setDest_dest]
      split
      · exact hr
      · exact h.orders n }

theorem setCongestion_tablesInv (h : s.TablesInv) {g : Nat} (hg : g ≤ Config.lastGroup) (r : CongestionRecord) :
    (s.setCongestion g r).TablesInv :=
  { h with congestion := Table.wf_set _ _ _ _ _ h.congestion hg }

theorem setAgreement_tablesInv (h : s.TablesInv) {c : Nat} (hc : c ≤ Config.lastCarrier) (a : Agreement) :
    (s.setAgreement c a).TablesInv :=
  { h with agreements := Table.wf_set _ _ _ _ _ h.agreements hc }

theorem setBank_tablesInv (h : s.TablesInv) (k : BankId) {b : Bank}
    (hb : Table.wf SettlementRecord.zero Config.lastCarrier b.records = true) : (s.setBank k b).TablesInv := by
  cases k with
  | a => exact { h with bankA := hb }
  | b => exact { h with bankB := hb }

theorem State.TablesInv.bank (h : s.TablesInv) (k : BankId) :
    Table.wf SettlementRecord.zero Config.lastCarrier (s.bank k).records = true := by
  cases k with
  | a => exact h.bankA
  | b => exact h.bankB

/-! ### The circuit pool -/

theorem holdCircuit_tablesInv (h : s.TablesInv) {c : Nat} (hc : c ≤ Config.lastCircuit) :
    (holdCircuit c s).TablesInv :=
  setCircuit_tablesInv h hc _

theorem outboundHunt_tablesInv (h : s.TablesInv) {c : Nat} (hc : c ≤ Config.lastCircuit) (g : Nat) :
    (outboundHunt g c s).TablesInv := by
  unfold outboundHunt
  split
  · exact h
  · rename_i r hg
    exact setCircuit_tablesInv (setGroup_tablesInv h (h.group_le hg) _) hc _

theorem inboundTake_tablesInv (h : s.TablesInv) {c : Nat} (hc : c ≤ Config.lastCircuit) (g : Nat) :
    (inboundTake g c s).TablesInv := by
  unfold inboundTake
  split
  · exact h
  · rename_i r hg
    exact setCircuit_tablesInv (setGroup_tablesInv h (h.group_le hg) _) hc _

theorem freeCircuit_tablesInv (h : s.TablesInv) {c : Nat} (hc : c ≤ Config.lastCircuit) (g : Nat) :
    (freeCircuit g c s).TablesInv := by
  have hset := setCircuit_tablesInv h hc (circuitAfterFreeing (s.circuit c).mark)
  unfold freeCircuit
  simp only
  split
  · exact hset
  · rename_i r hg
    have hgroup := setGroup_tablesInv hset (h.group_le hg) (some (groupAfterFreeing c (s.circuit c).mark r))
    split
    · exact hgroup.of_pct (raiseAll_sameBut _ _)
    · exact hgroup

theorem moveCircuit_tablesInv (h : s.TablesInv) {c : Nat} (hc : c ≤ Config.lastCircuit) (g : Nat) (v : Circuit)
    (l : List Nat → List Nat) : (moveCircuit g c v l s).TablesInv := by
  unfold moveCircuit
  split
  · exact h
  · rename_i r hg
    exact setGroup_tablesInv (setCircuit_tablesInv h hc _) (h.group_le hg) _

/-! ### Records and legs -/

theorem freeRecord_tablesInv (h : s.TablesInv) {i : Nat} (hi : i ≤ Config.callRecords - 1) :
    (freeRecord i s).TablesInv :=
  { setCall_tablesInv h hi none with gens := Table.wf_set _ _ _ _ _ h.gens hi }

theorem makeRecord_tablesInv (h : s.TablesInv) {i : Nat} (hi : i ≤ Config.callRecords - 1) (r : CallRecord) :
    (makeRecord i r s).TablesInv :=
  { setCall_tablesInv h hi (some r) with }

theorem freeOutbound_tablesInv {r : CallRecord} (h : s.TablesInv) (hr : ∀ c ∈ r.circuits, c ≤ Config.lastCircuit) :
    (freeOutbound r s).TablesInv := by
  unfold freeOutbound
  split
  · rename_i o ho
    exact freeCircuit_tablesInv h (hr _ ((r.mem_circuits _).2 (.inl ⟨o, ho, rfl⟩))) _
  · exact h

theorem freeInbound_tablesInv {r : CallRecord} (h : s.TablesInv) (hr : ∀ c ∈ r.circuits, c ≤ Config.lastCircuit) :
    (freeInbound r s).TablesInv := by
  unfold freeInbound
  split
  · rename_i b hb
    exact freeCircuit_tablesInv h (hr _ ((r.mem_circuits _).2 (.inr ⟨b, hb, rfl⟩))) _
  · exact h

theorem freeCall_tablesInv {r : CallRecord} (h : s.TablesInv) (hr : ∀ c ∈ r.circuits, c ≤ Config.lastCircuit)
    {i : Nat} (hi : i ≤ Config.callRecords - 1) : (freeCall i r s).TablesInv :=
  freeRecord_tablesInv (freeInbound_tablesInv (freeOutbound_tablesInv h hr) hr) hi

theorem accumulateLeg_tablesInv (h : s.TablesInv) {leg : Option RatedLeg}
    (hl : ∀ l, leg = some l → l.carrier ≤ Config.lastCarrier) : (accumulateLeg leg s).TablesInv := by
  cases leg with
  | none => exact h
  | some l => exact setBank_tablesInv h _ (Table.wf_set _ _ _ _ _ (h.bank _) (hl l rfl))

end Updates

/-! ### What the agreement of the pool and the records gives of the numbers in range -/

section Ranges

variable {s : State}

theorem State.GroupInv.le_of_holds {r : Group} (h : s.GroupInv r) {c : Nat} (hc : groupHolds c r = true) :
    c ≤ Config.lastCircuit := by
  have hlast := h.range.last
  have hlt := ((groupHolds_iff c r).1 hc).2
  omega

/-- The circuits of a live record are circuits of groups, so in range (R1). -/
theorem State.PoolInv.circuits_le (h : s.PoolInv) {i : Nat} {r : CallRecord} (hi : s.call i = some r) :
    ∀ c ∈ r.circuits, c ≤ Config.lastCircuit := by
  intro c hc
  have hr := h.calls i r hi
  obtain ⟨g, x, hg, hh⟩ : ∃ g x, s.group g = some x ∧ groupHolds c x = true := by
    rcases (r.mem_circuits c).1 hc with ⟨o, ho, rfl⟩ | ⟨b, hb, rfl⟩
    · exact ⟨_, (hr.outbound o ho).1⟩
    · exact ⟨_, (hr.inbound b hb).1⟩
  exact (h.groups g x hg).le_of_holds hh

theorem State.PoolInv.carrierOf_le (h : s.PoolInv) (g : Nat) : s.carrierOf g ≤ Config.lastCarrier := by
  unfold State.carrierOf
  split
  · rename_i r hg
    exact (h.groups g r hg).range.carrier
  · exact Nat.zero_le _

theorem rateLeg_carrier (t : TariffClass) (kind : LegKind) (carrier slot level : Nat) (cls : CallClass)
    (mark : Option AnswerMark) (now : Nat) : (rateLeg t kind carrier slot level cls mark now).carrier = carrier := by
  cases mark <;> rfl

theorem payableLeg_carrier_le (h : s.PoolInv) {r : CallRecord} {l : RatedLeg} (hl : payableLeg s r = some l) :
    l.carrier ≤ Config.lastCarrier := by
  obtain ⟨o, -, hslot⟩ := Option.bind_eq_some_iff.1 hl
  obtain ⟨slot, -, rfl⟩ := Option.map_eq_some_iff.1 hslot
  rw [rateLeg_carrier]
  exact h.carrierOf_le _

theorem receivableLeg_carrier_le (h : s.PoolInv) {r : CallRecord} {l : RatedLeg} (hl : receivableLeg s r = some l) :
    l.carrier ≤ Config.lastCarrier := by
  obtain ⟨b, -, hslot⟩ := Option.bind_eq_some_iff.1 hl
  obtain ⟨slot, -, rfl⟩ := Option.map_eq_some_iff.1 hslot
  rw [rateLeg_carrier]
  exact h.carrierOf_le _

/-- The circuit that a winning walk gives stands in a free list, so in range. -/
theorem State.Wins.circuit_le {inbound : Option Nat} {w : Winner} {x : Group} (hw : s.Wins inbound w x)
    (h : s.GroupInv x) : w.circuit ≤ Config.lastCircuit :=
  h.le_of_holds ((h.free _).1 (List.mem_of_mem_head? hw.head)).1

end Ranges

end Sys2Proof.Machine
end

section
/-! SUPPORT. Each command keeps every table canonical, its numbers in range (log entry 12). -/

namespace Sys2Proof.Machine

open Sys2Proof

/-! ### The requests on groups and circuits -/

section Groups

variable {s : State}

theorem releaseRange_wf {t : Table Circuit} (h : Table.wf Circuit.idle Config.lastCircuit t = true) (x : Option Group) :
    Table.wf Circuit.idle Config.lastCircuit (releaseRange t x) = true := by
  cases x with
  | none => exact h
  | some r => exact Table.wf_clearRange _ _ _ _ _ h

theorem definedCircuits_wf {t : Table Circuit} (h : Table.wf Circuit.idle Config.lastCircuit t = true)
    (x : Option Group) {a : GroupArg} (ha : ∀ c ∈ a.maint, c ≤ Config.lastCircuit) :
    Table.wf Circuit.idle Config.lastCircuit (definedCircuits t x a) = true :=
  List.foldlRecOn (motive := fun t => Table.wf Circuit.idle Config.lastCircuit t = true) _ _
    (Table.wf_clearRange _ _ _ _ _ (releaseRange_wf h x)) fun _ ht c hc => Table.wf_set _ _ _ _ _ ht (ha c hc)

theorem rewriteGroup_tablesInv (h : s.TablesInv) {g : Nat} (hg : g ≤ Config.lastGroup) (x : Option Group)
    {circuits : Table Circuit} (hc : Table.wf Circuit.idle Config.lastCircuit circuits = true) :
    (rewriteGroup g x circuits s).TablesInv := by
  refine setCongestion_tablesInv ?_ hg _
  exact { setGroup_tablesInv h hg x with circuits := hc }

theorem defineGroup_tablesInv (h : s.TablesInv) (g : Nat) (a : GroupArg) : (defineGroup g a s).2.TablesInv := by
  unfold defineGroup
  split
  · exact h
  rename_i hg
  split
  · exact h
  rename_i d l hstruct
  obtain ⟨⟨-, -, hlast, -, -, hmaint⟩, -⟩ := (groupStructure_some_iff a d l).1 hstruct
  split
  · exact h
  split
  · exact h
  · refine rewriteGroup_tablesInv h (Nat.not_lt.1 hg) _ (definedCircuits_wf h.circuits _ fun c hc => ?_)
    have hlt := (hmaint c hc).2
    simp only [Config.lastCircuit]
    omega

theorem removeGroup_tablesInv (h : s.TablesInv) (g form : Nat) : (removeGroup g form s).2.TablesInv := by
  unfold removeGroup
  split
  · exact h
  rename_i hg
  split
  · exact h
  · exact rewriteGroup_tablesInv h (Nat.not_lt.1 fun hlt => hg (.inl hlt)) none (releaseRange_wf h.circuits _)

theorem blockGroup_tablesInv (h : s.TablesInv) (g : Nat) : (blockGroup g s).2.TablesInv := by
  unfold blockGroup
  split
  · exact h
  split
  · exact h
  · rename_i r hr
    exact setGroup_tablesInv h (h.group_le hr) _

theorem unblockGroup_tablesInv (h : s.TablesInv) (g form : Nat) : (unblockGroup g form s).2.TablesInv := by
  unfold unblockGroup
  split
  · exact h
  split
  · exact h
  · rename_i r hr
    exact setGroup_tablesInv h (h.group_le hr) _

theorem setReserve_tablesInv (h : s.TablesInv) (g n : Nat) : (setReserve g n s).2.TablesInv := by
  unfold setReserve
  split
  · exact h
  split
  · exact h
  · rename_i r hr
    exact setGroup_tablesInv h (h.group_le hr) _

theorem takeOut_tablesInv (h : s.TablesInv) {c : Nat} (hc : c ≤ Config.lastCircuit) (g : Nat) :
    (takeOut g c s).TablesInv := by
  unfold takeOut
  split
  · exact moveCircuit_tablesInv h hc _ _ _
  · exact setCircuit_tablesInv h hc _
  · exact setCircuit_tablesInv h hc _
  · exact h

theorem putBack_tablesInv (h : s.TablesInv) {c : Nat} (hc : c ≤ Config.lastCircuit) (g : Nat) :
    (putBack g c s).TablesInv := by
  unfold putBack
  split
  · exact moveCircuit_tablesInv h hc _ _ _
  · exact setCircuit_tablesInv h hc _
  · exact setCircuit_tablesInv h hc _
  · exact h

theorem circuitOut_tablesInv (h : s.TablesInv) (c : Nat) : (circuitOut c s).2.TablesInv := by
  unfold circuitOut
  split
  · exact h
  rename_i hc
  split
  · exact h
  · exact takeOut_tablesInv h (Nat.not_lt.1 hc) _

theorem circuitReturn_tablesInv (h : s.TablesInv) (c form : Nat) : (circuitReturn c form s).2.TablesInv := by
  unfold circuitReturn
  split
  · exact h
  rename_i hc
  split
  · exact h
  · exact putBack_tablesInv h (Nat.not_lt.1 fun hlt => hc (.inl hlt)) _

end Groups

/-! ### The requests on calls -/

section Calls

variable {s : State}

theorem holdOutbound_tablesInv {r : CallRecord} (h : s.TablesInv) (hr : ∀ c ∈ r.circuits, c ≤ Config.lastCircuit) :
    (holdOutbound r s).TablesInv := by
  unfold holdOutbound
  split
  · rename_i o ho
    exact holdCircuit_tablesInv h (hr _ ((r.mem_circuits _).2 (.inl ⟨o, ho, rfl⟩)))
  · exact h

theorem confirmCall_tablesInv (h : s.TablesInv) (hp : s.PoolInv) (p : PortId) (index gen : Nat) :
    (confirmCall p index gen s).2.TablesInv := by
  unfold confirmCall
  split
  · exact h
  rename_i r hf
  obtain ⟨-, hi, -, -⟩ := findOwnCall_ok hf
  split
  · exact holdOutbound_tablesInv (setCall_tablesInv h (h.call_le hi) _) (hp.circuits_le hi)
  all_goals exact h

theorem answerCall_tablesInv (h : s.TablesInv) (p : PortId) (index gen : Nat) :
    (answerCall p index gen s).2.TablesInv := by
  unfold answerCall
  split
  · exact h
  rename_i r hf
  obtain ⟨-, hi, -, -⟩ := findOwnCall_ok hf
  split
  · exact setCall_tablesInv h (h.call_le hi) _
  all_goals exact h

theorem releaseRated_tablesInv (h : s.TablesInv) (hp : s.PoolInv) {i : Nat} {r : CallRecord} (hi : s.call i = some r) :
    (releaseRated i r s).2.TablesInv :=
  freeCall_tablesInv
    (accumulateLeg_tablesInv (accumulateLeg_tablesInv h fun _ hl => payableLeg_carrier_le hp hl)
      fun _ hl => receivableLeg_carrier_le hp hl)
    (hp.circuits_le hi) (h.call_le hi)

theorem releaseCall_tablesInv (h : s.TablesInv) (hp : s.PoolInv) (p : PortId) (index gen : Nat) :
    (releaseCall p index gen s).2.TablesInv := by
  unfold releaseCall
  split
  · exact h
  rename_i r hf
  obtain ⟨-, hi, -, -⟩ := findOwnCall_ok hf
  split
  case h_4 => exact freeRecord_tablesInv (freeInbound_tablesInv h (hp.circuits_le hi)) (h.call_le hi)
  all_goals exact releaseRated_tablesInv h hp hi

theorem execGuardExpiry_tablesInv {i : Nat} {t : State} (h : s.TablesInv) (hp : s.PoolInv)
    (he : execGuardExpiry i s = .next t) : t.TablesInv := by
  unfold execGuardExpiry at he
  split at he
  · exact next_inj he ▸ h
  · rename_i r hi
    exact eventWhen_keeps (P := State.TablesInv) h
      (fun _ => (freeCall_tablesInv h (hp.circuits_le hi) (h.call_le hi)).of_pct (raiseTo_sameBut _ _ _)) he

theorem adoptPort_tablesInv (h : s.TablesInv) (f t : Nat) : (adoptPort f t s).2.TablesInv := by
  unfold adoptPort
  split
  · split
    · exact h
    · refine State.TablesInv.of_pct ?_ (raiseTo_sameBut _ _ _)
      exact { h with calls := Table.wf_map _ _ _ _ (fun v hv => by simpa using hv) h.calls }
  · exact h

theorem advanceGens_wf {gens : Table Nat} {last : Nat} (h : Table.wf 0 last gens = true) {l : List Nat}
    (hl : ∀ i ∈ l, i ≤ last) : Table.wf 0 last (advanceGens gens l) = true :=
  List.foldlRecOn (motive := fun t => Table.wf 0 last t = true) _ _ h fun _ ht i hi =>
    Table.wf_set _ _ _ _ _ ht (hl i hi)

theorem exchangeRestart_tablesInv (h : s.TablesInv) : (exchangeRestart s).2.TablesInv :=
  { h with
    calls := Table.wf_nil _ _
    gens := advanceGens_wf h.gens fun i hi => by
      obtain ⟨r, hr⟩ := Option.isSome_iff_exists.1 ((mem_liveIndices h i).1 hi)
      exact h.call_le hr
    groups := Table.wf_map _ _ _ _ (fun v hv => by simpa using hv) h.groups
    circuits := Table.wf_filter_map _ _ _ _ h.circuits }

end Calls

/-! ### The walk, ROUTE and REROUTE -/

section Routing

variable {s : State}

theorem countOn_wf {records : Table CongestionRecord}
    (h : Table.wf CongestionRecord.zero Config.lastGroup records = true) {g : Nat} (hg : g ≤ Config.lastGroup)
    (refused : Bool) : Table.wf CongestionRecord.zero Config.lastGroup (countOn records g refused) = true :=
  Table.wf_set _ _ _ _ _ h hg

/-- The walk counts on defined groups alone (R85). -/
theorem walkFrom_wf (ht : s.TablesInv) (cls : CallClass) (inbound : Option Nat) (l : List Candidate) (t : Tally)
    (records : Table CongestionRecord) (h : Table.wf CongestionRecord.zero Config.lastGroup records = true) :
    Table.wf CongestionRecord.zero Config.lastGroup (walkFrom s cls inbound l t records).2 = true := by
  induction l generalizing t records with
  | nil => exact h
  | cons c rest ih =>
    rw [walkFrom]
    split
    · exact ih _ _ h
    · rename_i r he
      obtain ⟨hg, -⟩ := eligible_some he
      split
      · exact countOn_wf h (ht.group_le hg) _
      · exact ih _ _ (countOn_wf h (ht.group_le hg) _)

theorem selectRoute_tablesInv (h : s.TablesInv) (d : Nat) (cls : CallClass) (inbound : Option Nat) :
    (selectRoute d cls inbound s).2.TablesInv := by
  unfold selectRoute
  simp only
  split
  · exact h
  split
  · exact h
  · exact { h with congestion := walkFrom_wf h _ _ _ _ _ h.congestion }

/-- Only ranks 0 to 7 rotate (R46). -/
theorem rank_le_of_rotates {d : Dest} {k : Nat} (h : rotates d k = true) : k ≤ 7 :=
  Nat.le_of_lt_succ (BitVec.lt_of_getLsbD h)

theorem reorder_orders_wf {d : Dest} (h : Table.wf [] 7 d.orders = true) {k : Nat} (hk : rotates d k = true)
    (f : List Nat → List Nat) : Table.wf [] 7 (reorder d k f).orders = true :=
  Table.wf_set _ _ _ _ _ h (rank_le_of_rotates hk)

theorem settleDest_tablesInv (h : s.TablesInv) {d : Nat} (hd : d ≤ Config.lastDest) (cls : CallClass) (w : Winner) :
    (settleDest d cls w s).TablesInv := by
  refine setDest_tablesInv h hd ?_
  unfold admittedDest
  simp only
  split
  · exact reorder_orders_wf (h.orders d) (by assumption) _
  · exact h.orders d

theorem takeInbound_tablesInv (h : s.TablesInv) {plan : InboundPlan}
    (hc : ∀ c ∈ planCircuits plan, c ≤ Config.lastCircuit) : (takeInbound plan s).TablesInv := by
  cases plan with
  | originating => exact h
  | take g c => exact inboundTake_tablesInv h (hc c (by simp [planCircuits])) g
  | displaced g c => exact holdCircuit_tablesInv h (hc c (by simp [planCircuits]))

theorem dropInbound_tablesInv (h : s.TablesInv) {plan : InboundPlan}
    (hc : ∀ c ∈ planCircuits plan, c ≤ Config.lastCircuit) : (dropInbound plan s).TablesInv := by
  cases plan with
  | originating => exact h
  | take g c => exact h
  | displaced g c => exact freeCircuit_tablesInv h (hc c (by simp [planCircuits])) g

theorem completeRoute_tablesInv (h : s.TablesInv) {p : PortId} {d i : Nat} {cls : CallClass} {plan : InboundPlan}
    {w : Winner} (hd : d ≤ Config.lastDest) (hi : i ≤ Config.callRecords - 1)
    (hc : ∀ c ∈ planCircuits plan, c ≤ Config.lastCircuit) (hw : w.circuit ≤ Config.lastCircuit) :
    (completeRoute p d cls plan i w s).2.TablesInv :=
  settleDest_tablesInv
    (makeRecord_tablesInv (outboundHunt_tablesInv (takeInbound_tablesInv h hc) hw _) hi _) hd _ _

theorem routeWith_tablesInv (h : s.TablesInv) {p : PortId} {d i : Nat} {cls : CallClass} {plan : InboundPlan}
    {L : List Nat} (hp : s.PoolHand L) (hd : d ≤ Config.lastDest) (hi : i ≤ Config.callRecords - 1)
    (hc : ∀ c ∈ planCircuits plan, c ≤ Config.lastCircuit) : (routeWith p d cls plan i s).2.TablesInv := by
  have hsel := selectRoute_tablesInv h d cls (planGroup plan)
  unfold routeWith
  split <;> rename_i he <;> rw [he] at hsel
  · exact dropInbound_tablesInv hsel hc
  · obtain ⟨x, hw⟩ := selectRoute_wins he
    exact completeRoute_tablesInv hsel hd hi hc (hw.circuit_le (hp.groups _ _ hw.group))

theorem displace_tablesInv (h : s.TablesInv) (c : Nat) : (displace c s).TablesInv := by
  unfold displace
  split
  · exact h
  split
  · exact h
  · rename_i i _ r hi
    exact (setCall_tablesInv h (h.call_le hi) _).of_pct (raiseTo_sameBut _ _ _)

theorem routeInbound_tablesInv (h : s.TablesInv) (hp : s.PoolInv) {p : PortId} {d i : Nat} {cls : CallClass}
    (inb : Option Nat) (hd : d ≤ Config.lastDest) (hi : i ≤ Config.callRecords - 1) :
    (routeInbound p d cls inb i s).2.TablesInv := by
  have hhand := (poolHand_nil_iff s).2 hp
  unfold routeInbound
  split
  · exact routeWith_tablesInv h hhand hd hi (by simp [planCircuits])
  split <;> rename_i hck
  · exact h
  all_goals
    obtain ⟨r, hg, hh, -, hst⟩ := checkInbound_ok h hck
    have hc := (hp.groups _ r hg).le_of_holds hh
  · exact routeWith_tablesInv h hhand hd hi (by simpa [planCircuits] using hc)
  · exact routeWith_tablesInv (displace_tablesInv h _) (displace_poolHand h hp hst) hd hi
      (by simpa [planCircuits] using hc)

theorem routeCall_tablesInv (h : s.TablesInv) (hq : s.QueueInv) (hp : s.PoolInv) (p : PortId) (d n : Nat)
    (inb : Option Nat) : (routeCall p d n inb s).2.TablesInv := by
  unfold routeCall
  split
  · exact h
  rename_i hd
  split
  · exact h
  split
  · exact h
  rename_i i hi
  rw [queueHead_eq] at hi
  have hlt := ((hq.free i).1 (List.mem_of_mem_head? hi)).1
  exact routeInbound_tablesInv h hp inb (Nat.not_lt.1 hd) (Nat.le_sub_one_of_lt hlt)

theorem rerouteCall_tablesInv (h : s.TablesInv) (hp : s.PoolInv) (p : PortId) (index gen : Nat) :
    (rerouteCall p index gen s).2.TablesInv := by
  unfold rerouteCall
  split
  · exact h
  rename_i r hf
  obtain ⟨-, hi, -, -⟩ := findOwnCall_ok hf
  have hsel := selectRoute_tablesInv h r.dest r.cls (r.inbound.map (·.group))
  split
  · unfold rerouteRecord
    split <;> rename_i he <;> rw [he] at hsel
    · exact hsel
    · rename_i w _
      obtain ⟨x, hw⟩ := selectRoute_wins he
      have hhunt := outboundHunt_tablesInv hsel (hw.circuit_le (hp.groups _ _ hw.group)) w.group
      exact settleDest_tablesInv (setCall_tablesInv hhunt (h.call_le hi) _) (hp.calls _ r hi).shape.dest _ _
  all_goals exact h

end Routing

/-! ### The routing tables -/

section RouteTables

variable {s : State}

theorem writtenOrders_wf (routes : List Choice) (rotate : Byte) :
    Table.wf [] 7 (writtenOrders routes rotate) = true := by
  have hentry : ∀ r e, (if (rotate.getLsbD r && !(positionsOfRank routes r).isEmpty) = true then
      some (r, positionsOfRank routes r) else none) = some e → e.1 = r ∧ e.2 ≠ [] := by
    intro r e he
    obtain ⟨hcond, hsome⟩ := Option.ite_none_right_eq_some.1 he
    obtain rfl := Option.some.inj hsome
    simp only [Bool.and_eq_true, Bool.not_eq_true', List.isEmpty_eq_false_iff] at hcond
    exact ⟨rfl, hcond.2⟩
  rw [Table.wf_iff]
  refine ⟨List.pairwise_filterMap.2 (List.pairwise_lt_range.imp fun hlt a ha b hb => ?_), fun e he => ?_⟩
  · rw [(hentry _ _ ha).1, (hentry _ _ hb).1]
    exact hlt
  · obtain ⟨r, hr, he⟩ := List.mem_filterMap.1 he
    obtain ⟨h1, h2⟩ := hentry r e he
    exact ⟨h1 ▸ Nat.le_of_lt_succ (List.mem_range.1 hr), h2⟩

theorem writeDest_tablesInv (h : s.TablesInv) (d : Nat) (f : Byte) (l : List ChoiceArg) :
    (writeDest d f l s).2.TablesInv := by
  unfold writeDest
  split
  · exact h
  rename_i hd
  split
  · exact h
  · exact setDest_tablesInv h (Nat.not_lt.1 fun hlt => hd (.inl hlt)) (writtenOrders_wf _ _)

theorem writeRouteSet_tablesInv (h : s.TablesInv) (n : Nat) (l : List SetEntryArg) :
    (writeRouteSet n l s).2.TablesInv := by
  unfold writeRouteSet
  split
  · exact h
  · rename_i hn
    exact { h with sets := Table.wf_set _ _ _ _ _ h.sets (Nat.not_lt.1 fun hlt => hn (.inl hlt)) }

theorem maskChoice_tablesInv (h : s.TablesInv) (d i m : Nat) : (maskChoice d i m s).2.TablesInv := by
  unfold maskChoice
  split
  · exact h
  rename_i hd
  split
  · exact h
  · exact setDest_tablesInv h (Nat.not_lt.1 fun hlt => hd (.inl hlt)) (h.orders d)

theorem setFirst_tablesInv (h : s.TablesInv) (d i : Nat) : (setFirst d i s).2.TablesInv := by
  unfold setFirst
  split
  · exact h
  rename_i hd
  split
  · exact h
  split
  · exact setDest_tablesInv h (Nat.not_lt.1 hd) (reorder_orders_wf (h.orders d) (by assumption) _)
  · exact h

theorem setRestriction_tablesInv (h : s.TablesInv) {d : Nat} (hd : d ≤ Config.lastDest) (r : Option Restriction) :
    (s.setRestriction d r).TablesInv :=
  setDest_tablesInv h hd (h.orders d)

theorem openDest_tablesInv (h : s.TablesInv) {d : Nat} (hd : d ≤ Config.lastDest) : (openDest d s).TablesInv :=
  (setRestriction_tablesInv h hd none).of_pct (raiseAll_sameBut _ _)

theorem farCongestion_tablesInv (h : s.TablesInv) (d g n : Nat) : (farCongestion d g n s).2.TablesInv := by
  unfold farCongestion
  split
  · exact h
  · rename_i hd
    exact setRestriction_tablesInv h (Nat.not_lt.1 hd) _

theorem farClear_tablesInv (h : s.TablesInv) (d : Nat) : (farClear d s).2.TablesInv := by
  unfold farClear
  split
  · exact h
  rename_i hd
  split
  · exact h
  · exact openDest_tablesInv h (Nat.not_lt.1 hd)

/-- A destination whose restriction's end is due is listed, so in range. -/
theorem State.TablesInv.dest_le_of_endDue (h : s.TablesInv) {d now : Nat} (hd : endDue now (s.dest d) = true) :
    d ≤ Config.lastDest :=
  Table.le_of_get_ne h.dests fun he => by
    rw [State.dest, he] at hd
    cases hd

theorem execEngineGrant_tablesInv {t : State} (h : s.TablesInv) (he : execEngineGrant s = .next t) : t.TablesInv := by
  unfold execEngineGrant at he
  split at he
  · exact eventWhen_keeps (P := State.TablesInv) h (fun _ => { h.of_pct (setPort_sameBut s _ _) with }) he
  · exact next_inj he ▸ h

end RouteTables

/-! ### Congestion, agreements, tariffs and banks -/

section Stores

variable {s : State}

theorem measureEntry_tablesInv (h : s.TablesInv) {e : Nat × Option Group} (he : e.1 ≤ Config.lastGroup) :
    (measureEntry s e).TablesInv := by
  unfold measureEntry
  split
  · have hset := setCongestion_tablesInv h he
    unfold measureGroup
    simp only
    split
    · exact hset _
    · exact (hset _).of_pct (raiseAll_sameBut _ _)
  · exact h

theorem endPeriod_tablesInv (h : s.TablesInv) : (endPeriod s).TablesInv := by
  have hmeasured : (measureGroups s).TablesInv :=
    List.foldlRecOn (motive := State.TablesInv) _ _ h fun _ hu e he =>
      measureEntry_tablesInv hu (((Table.wf_iff _ _ _).1 h.groups).2 e he).1
  exact { hmeasured with inForce := hmeasured.staged }

theorem writeProfile_tablesInv (h : s.TablesInv) (n : Nat) (p : Profile) : (writeProfile n p s).2.TablesInv := by
  unfold writeProfile
  split
  · exact h
  · rename_i hn
    exact { h with staged := Table.wf_set _ _ _ _ _ h.staged (Nat.not_lt.1 fun hlt => hn (.inl hlt)) }

theorem setPeriod_tablesInv (h : s.TablesInv) (n : Nat) : (setPeriod n s).2.TablesInv := by
  unfold setPeriod
  split
  · exact h
  · exact { h with }

theorem resetLatch_tablesInv (h : s.TablesInv) (g : Nat) : (resetLatch s g).TablesInv := by
  unfold resetLatch
  split
  · exact h
  · rename_i r hg
    exact setCongestion_tablesInv h (h.group_le hg) _

theorem readCongestion_tablesInv (h : s.TablesInv) (a n : Nat) : (readCongestion a n s).2.TablesInv := by
  unfold readCongestion
  split
  · exact h
  · exact List.foldlRecOn (motive := State.TablesInv) _ _ h fun _ hu g _ => resetLatch_tablesInv hu g

theorem rewriteAgreement_tablesInv (h : s.TablesInv) {c : Nat} (hc : isCarrier c = true) (a : Agreement) :
    (rewriteAgreement c a s).TablesInv := by
  have hset := setAgreement_tablesInv h ((isCarrier_iff c).1 hc).2 a
  unfold rewriteAgreement
  simp only
  split
  · exact hset
  · exact hset.of_pct (raiseAll_sameBut _ _)

theorem writeLocalOffer_tablesInv (h : s.TablesInv) (c : Nat) (l : List Nat) : (writeLocalOffer c l s).2.TablesInv := by
  unfold writeLocalOffer
  split
  · exact h
  · rename_i hc
    exact rewriteAgreement_tablesInv h (by simp_all) _

theorem writeCarrierOffer_tablesInv (h : s.TablesInv) (c : Nat) (l : List Nat) :
    (writeCarrierOffer c l s).2.TablesInv := by
  unfold writeCarrierOffer
  split
  · exact h
  · rename_i hc
    exact rewriteAgreement_tablesInv h (by simp_all) _

theorem confirmAgreement_tablesInv (h : s.TablesInv) (c n : Nat) : (confirmAgreement c n s).2.TablesInv := by
  unfold confirmAgreement
  split
  · exact h
  rename_i hc
  split
  · exact rewriteAgreement_tablesInv h (by simp_all) _
  all_goals exact h

theorem withdrawAgreement_tablesInv (h : s.TablesInv) (c : Nat) : (withdrawAgreement c s).2.TablesInv := by
  unfold withdrawAgreement
  split
  · exact h
  · rename_i hc
    exact rewriteAgreement_tablesInv h (by simp_all) _

theorem writeTariff_tablesInv (h : s.TablesInv) (c n : Nat) (v : TariffClass) : (writeTariff c n v s).2.TablesInv := by
  unfold writeTariff
  split
  · exact h
  · rename_i hc
    rw [not_or, Bool.not_eq_true', Bool.not_eq_false, isCarrier_iff, Nat.not_lt] at hc
    refine { h with pendingTariffs := Table.wf_set _ _ _ _ _ h.pendingTariffs ?_ }
    simp only [tariffKey, Config.lastCarrier]
    omega

theorem writeBands_tablesInv (h : s.TablesInv) (l : List SwitchPoint) : (writeBands l s).2.TablesInv := by
  unfold writeBands
  split
  · exact { h with }
  · exact h

theorem closeBank_records (now : Stamp) (b : Bank) : (closeBank now b).records = b.records := by
  unfold closeBank
  split <;> rfl

theorem swapBanks_tablesInv (h : s.TablesInv) : (swapBanks s).TablesInv := by
  have hclosed := setBank_tablesInv h s.sts.activeBank (b := closeBank s.bankStamp (s.bank s.sts.activeBank))
    (by rw [closeBank_records]; exact h.bank _)
  have hopened := setBank_tablesInv hclosed (otherBank s.sts.activeBank)
    (b := ⟨.active (nextPeriod (bankPeriod (s.bank s.sts.activeBank))) s.bankStamp, []⟩) (Table.wf_nil _ _)
  refine State.TablesInv.of_pct ?_ (raiseAll_sameBut _ _)
  exact { hopened with tariffs := hopened.pendingTariffs }

theorem performClose_tablesInv (h : s.TablesInv) : (performClose s).TablesInv := by
  unfold performClose deferClose
  split
  · split
    · exact h
    · refine State.TablesInv.of_pct ?_ (raiseAll_sameBut _ _)
      exact { h with }
  · exact swapBanks_tablesInv h

theorem closePeriod_tablesInv (h : s.TablesInv) : (closePeriod s).2.TablesInv := by
  unfold closePeriod
  simp only
  split <;> exact performClose_tablesInv h

theorem releaseBank_tablesInv (h : s.TablesInv) (n : Nat) : (releaseBank n s).2.TablesInv := by
  unfold releaseBank
  split
  · exact h
  rename_i k _
  split
  · have hempty := setBank_tablesInv h k (b := ⟨.available, []⟩) (Table.wf_nil _ _)
    unfold collectBank
    simp only
    split
    · exact swapBanks_tablesInv hempty
    · exact hempty
  all_goals exact h

theorem setAutoCloseSecond_tablesInv (h : s.TablesInv) (f n : Nat) : (setAutoCloseSecond f n s).2.TablesInv := by
  unfold setAutoCloseSecond
  split
  · exact h
  · exact { h with }

end Stores

end Sys2Proof.Machine
end

section
/-! SUPPORT. Each command keeps the free-record queue a list of exactly the free records (R25). -/

namespace Sys2Proof.Machine

open Sys2Proof

/-! ### The queue and the records -/

section Queue

variable {s t : State}

/-- The queue is right where it and the generations are the same, and the same records are live. -/
theorem State.QueueInv.congr (h : s.QueueInv) (hq : t.crt.queue = s.crt.queue)
    (hi : ∀ i, t.call i = none ↔ s.call i = none) (hg : ∀ i, t.gen i = s.gen i) : t.QueueInv :=
  ⟨hq ▸ h.nodup, fun i => by rw [hq, h.free, hi], fun i => hg i ▸ h.gens i⟩

theorem State.QueueInv.of_crt (h : s.QueueInv) (hcrt : t.crt = s.crt) : t.QueueInv :=
  h.congr (by rw [hcrt]) (fun i => by rw [State.call, State.call, hcrt]) fun i => by rw [State.gen, State.gen, hcrt]

/-- A live record is rewritten. -/
theorem setCall_queueInv (h : s.QueueInv) {i : Nat} {r : CallRecord} (hi : s.call i = some r) (r' : CallRecord) :
    (s.setCall i (some r')).QueueInv := by
  refine h.congr rfl (fun j => ?_) fun _ => rfl
  rw [State.setCall_call]
  split
  · rename_i hj
    rw [hj, hi]
    simp
  · exact Iff.rfl

theorem nextGen_lt (g : Nat) : nextGen g < Config.generations := Nat.mod_lt _ (by decide)

/-- A live record is freed: its index, which was not in the queue, joins the tail (R25). -/
theorem freeRecord_queueInv (h : s.QueueInv) {i : Nat} (hlt : i < Config.callRecords) {r : CallRecord}
    (hi : s.call i = some r) : (freeRecord i s).QueueInv := by
  have hout : i ∉ queueList s.crt.queue := fun hm => by
    rw [((h.free i).1 hm).2] at hi
    cases hi
  refine ⟨?_, fun j => ?_, fun j => ?_⟩
  · rw [freeRecord_queue, List.nodup_append_comm, List.singleton_append, List.nodup_cons]
    exact ⟨hout, h.nodup⟩
  · rw [freeRecord_queue, freeRecord_call, List.mem_append, List.mem_singleton, h.free]
    by_cases hj : j = i
    · simp [hj, hlt]
    · simp [hj]
  · rw [freeRecord_gen]
    split
    · exact nextGen_lt _
    · exact h.gens j

/-- A record is made with the index at the queue's head, which leaves the queue (R25, R28). -/
theorem makeRecord_queueInv (h : s.QueueInv) {i : Nat} (hi : queueHead s.crt.queue = some i) (r : CallRecord) :
    (makeRecord i r s).QueueInv := by
  obtain ⟨rest, hq⟩ := List.head?_eq_some_iff.1 ((queueHead_eq _).symm.trans hi)
  have hrest : queueList (makeRecord i r s).crt.queue = rest := by
    show queueList (queuePop s.crt.queue) = rest
    rw [queuePop_list, hq, List.tail_cons]
  have hnodup := h.nodup
  rw [hq, List.nodup_cons] at hnodup
  refine ⟨hrest ▸ hnodup.2, fun j => ?_, h.gens⟩
  have hfree := h.free j
  rw [hq, List.mem_cons] at hfree
  rw [hrest, makeRecord_call]
  by_cases hj : j = i
  · subst hj; simp [hnodup.1]
  · simpa [hj] using hfree

theorem freeCall_queueInv (h : s.QueueInv) {i : Nat} {r r' : CallRecord} (hlt : i < Config.callRecords)
    (hi : s.call i = some r) : (freeCall i r' s).QueueInv := by
  have hcrt : (freeInbound r' (freeOutbound r' s)).crt = s.crt :=
    (freeInbound_frame r' _).1.trans (freeOutbound_frame r' s).1
  exact freeRecord_queueInv (h.of_crt hcrt) hlt (by rw [State.call, hcrt]; exact hi)

end Queue

/-! ### The requests on calls -/

section Calls

variable {s : State}

theorem confirmCall_queueInv (h : s.QueueInv) (p : PortId) (index gen : Nat) :
    (confirmCall p index gen s).2.QueueInv := by
  unfold confirmCall
  split
  · exact h
  rename_i r hf
  obtain ⟨-, hi, -, -⟩ := findOwnCall_ok hf
  split
  · exact (setCall_queueInv h hi _).of_crt ((holdOutbound_sameBut _ _).crt.resolve_left (by decide))
  all_goals exact h

theorem answerCall_queueInv (h : s.QueueInv) (p : PortId) (index gen : Nat) :
    (answerCall p index gen s).2.QueueInv := by
  unfold answerCall
  split
  · exact h
  rename_i r hf
  obtain ⟨-, hi, -, -⟩ := findOwnCall_ok hf
  split
  · exact setCall_queueInv h hi _
  all_goals exact h

theorem releaseRated_queueInv (h : s.QueueInv) {i : Nat} {r : CallRecord} (hlt : i < Config.callRecords)
    (hi : s.call i = some r) : (releaseRated i r s).2.QueueInv := by
  have hcrt := (accumulateLeg_pool (receivableLeg s r) (accumulateLeg (payableLeg s r) s)).2.trans
    (accumulateLeg_pool (payableLeg s r) s).2
  exact freeCall_queueInv (h.of_crt hcrt) hlt (by rw [State.call, hcrt]; exact hi)

theorem releaseCall_queueInv (h : s.QueueInv) (p : PortId) (index gen : Nat) :
    (releaseCall p index gen s).2.QueueInv := by
  unfold releaseCall
  split
  · exact h
  rename_i r hf
  obtain ⟨hlt, hi, -, -⟩ := findOwnCall_ok hf
  split
  case h_4 =>
    have hcrt := (freeInbound_frame r s).1
    exact freeRecord_queueInv (h.of_crt hcrt) hlt (by rw [State.call, hcrt]; exact hi)
  all_goals exact releaseRated_queueInv h hlt hi

theorem expireCall_queueInv (ht : s.TablesInv) (h : s.QueueInv) {i : Nat} {r : CallRecord} (hi : s.call i = some r) :
    (expireCall i r s).QueueInv :=
  (freeCall_queueInv h (call_lt ht (by rw [hi]; rfl)) hi).of_crt rfl

theorem execGuardExpiry_queueInv {i : Nat} {t : State} (ht : s.TablesInv) (h : s.QueueInv)
    (he : execGuardExpiry i s = .next t) : t.QueueInv := by
  unfold execGuardExpiry at he
  split at he
  · exact next_inj he ▸ h
  · rename_i r hi
    exact eventWhen_keeps (P := State.QueueInv) h (fun _ => expireCall_queueInv ht h hi) he

theorem adoptPort_queueInv (h : s.QueueInv) (f t : Nat) : (adoptPort f t s).2.QueueInv := by
  unfold adoptPort
  split
  · split
    · exact h
    · refine h.congr rfl (fun i => ?_) fun _ => rfl
      rw [adoptCalls_call, Option.map_eq_none_iff]
  · exact h

/-- After a restart every index stands in the queue: those that stood there, and those of the records that were live (R45). -/
theorem exchangeRestart_queueInv (ht : s.TablesInv) (h : s.QueueInv) : (exchangeRestart s).2.QueueInv := by
  have hqueue : queueList (exchangeRestart s).2.crt.queue = queueList s.crt.queue ++ liveIndices s := by
    simp only [exchangeRestart, queueList, queuePush, List.append_assoc]
  have hlive := (liveIndices_pairwise ht).imp fun {_ _} hlt => Nat.ne_of_lt hlt
  refine ⟨?_, fun i => ?_, fun i => ?_⟩
  · rw [hqueue]
    refine h.nodup.append hlive fun i hq hl => ?_
    rw [mem_liveIndices ht, ((h.free i).1 hq).2] at hl
    cases hl
  · rw [hqueue, List.mem_append, h.free, mem_liveIndices ht]
    show _ ↔ i < Config.callRecords ∧ none = none
    cases hi : s.call i with
    | none => simp
    | some r =>
      have hlt : i < Config.callRecords := call_lt ht (by rw [hi]; rfl)
      simp [hlt]
  · show Table.get 0 (advanceGens s.crt.gens (liveIndices s)) i < _
    rw [get_advanceGens _ hlive]
    split
    · exact nextGen_lt _
    · exact h.gens i

end Calls

/-! ### ROUTE and REROUTE -/

section Routing

variable {s : State} {p : PortId} {d i : Nat} {cls : CallClass} {plan : InboundPlan}

theorem selectRoute_crt {s' : State} {inbound : Option Nat} {e : Except Reason Winner}
    (h : selectRoute d cls inbound s = (e, s')) : s'.crt = s.crt :=
  (selectRoute_counted h).crt

theorem completeRoute_queueInv (h : s.QueueInv) (hi : queueHead s.crt.queue = some i) (w : Winner) :
    (completeRoute p d cls plan i w s).2.QueueInv := by
  have hcrt : (outboundHunt w.group w.circuit (takeInbound plan s)).crt = s.crt := by simp
  have hmade := makeRecord_queueInv (h.of_crt hcrt) (by rw [hcrt]; exact hi) (routedRecord s p d cls plan w)
  exact hmade.of_crt rfl

theorem routeWith_queueInv (h : s.QueueInv) (hi : queueHead s.crt.queue = some i) :
    (routeWith p d cls plan i s).2.QueueInv := by
  unfold routeWith
  split <;> rename_i he <;> have hcrt := selectRoute_crt he
  · exact h.of_crt (((dropInbound_sameBut _ plan).crt.resolve_left (by decide)).trans hcrt)
  · exact completeRoute_queueInv (h.of_crt hcrt) (by rw [hcrt]; exact hi) _

theorem displace_queueInv (h : s.QueueInv) (c : Nat) : (displace c s).QueueInv := by
  unfold displace
  split
  · exact h
  split
  · exact h
  · rename_i i _ r hi
    exact (setCall_queueInv h hi _).of_crt rfl

theorem displace_queue (c : Nat) (s : State) : (displace c s).crt.queue = s.crt.queue := by
  unfold displace
  split
  · rfl
  split <;> rfl

theorem routeCall_queueInv (h : s.QueueInv) (n : Nat) (inb : Option Nat) : (routeCall p d n inb s).2.QueueInv := by
  unfold routeCall
  split
  · exact h
  split
  · exact h
  split
  · exact h
  rename_i i hi
  unfold routeInbound
  split
  · exact routeWith_queueInv h hi
  split
  · exact h
  · exact routeWith_queueInv h hi
  · exact routeWith_queueInv (displace_queueInv h _) (by rw [displace_queue]; exact hi)

theorem rerouteCall_queueInv (h : s.QueueInv) (p : PortId) (index gen : Nat) :
    (rerouteCall p index gen s).2.QueueInv := by
  unfold rerouteCall
  split
  · exact h
  rename_i r hf
  obtain ⟨-, hi, -, -⟩ := findOwnCall_ok hf
  split
  · unfold rerouteRecord
    split <;> rename_i he <;> have hcrt := selectRoute_crt he
    · exact h.of_crt hcrt
    · rename_i w _
      have hhunt := (outboundHunt_crt w.group w.circuit _).trans hcrt
      exact (setCall_queueInv (h.of_crt hhunt) (by rw [State.call, hhunt]; exact hi) _).of_crt rfl
  all_goals exact h

end Routing

/-! ### Every step -/

section Steps

variable {s t : State} {c : Instr}

theorem resetRoles_tablesInv (r0 r1 r2 r3 : Role) : (State.resetRoles r0 r1 r2 r3).TablesInv :=
  { reset_tablesInv with }

theorem reset_queueInv : State.reset.QueueInv := queueInv_of_check _ (by decide) reset_tablesInv

/-- A request row keeps every table canonical where its block's part does. -/
theorem serve_tablesInv {r : Requester} {f : State → Reply × State} (hs : s.TablesInv) (hf : (f s).2.TablesInv)
    (h : serve r c f s = .next t) : t.TablesInv :=
  serve_keeps (P := State.TablesInv) (fun u a hu => hu.of_pct (sameBut_deliver u r c a)) hs hf h

/-- A request row keeps the queue right where its block's part does. -/
theorem serve_queueInv {r : Requester} {f : State → Reply × State} (hs : s.QueueInv) (hf : (f s).2.QueueInv)
    (h : serve r c f s = .next t) : t.QueueInv :=
  serve_keeps (P := State.QueueInv) (fun u a hu => hu.of_crt (State.deliver_crt u r c a)) hs hf h

/-- A command that touches none of the blocks with tables keeps every table. -/
theorem exec_tablesInv_of_untouched (hs : s.TablesInv) (h : exec c s = .next t) (hc : touches c ⊆ [.pct, .tmb]) :
    t.TablesInv :=
  hs.of_sameBut ((exec_sameBut h).mono hc)

/-- A command that does not touch CRT keeps the queue. -/
theorem exec_queueInv_of_untouched (hs : s.QueueInv) (h : exec c s = .next t) (hc : Block.crt ∉ touches c) :
    t.QueueInv :=
  hs.of_crt ((exec_sameBut h).crt.resolve_left hc)

theorem exec_tablesInv (ht : s.TablesInv) (hq : s.QueueInv) (hp : s.PoolInv) (h : exec c s = .next t) :
    t.TablesInv := by
  cases c with
  | powerOnReset pins =>
    obtain rfl := next_inj h
    exact { resetRoles_tablesInv (roleOfPins pins.p0) (roleOfPins pins.p1) (roleOfPins pins.p2)
      (roleOfPins pins.p3) with }
  | millisecondTick => exact eventWhen_keeps (P := State.TablesInv) ht (fun _ => { ht with }) h
  | engineGrant => exact execEngineGrant_tablesInv ht h
  | route r d n inb => exact serve_tablesInv ht (routeCall_tablesInv ht hq hp _ d n inb) h
  | confirm r i g => exact serve_tablesInv ht (confirmCall_tablesInv ht hp _ i g) h
  | answer r i g => exact serve_tablesInv ht (answerCall_tablesInv ht _ i g) h
  | release r i g => exact serve_tablesInv ht (releaseCall_tablesInv ht hp _ i g) h
  | reroute r i g => exact serve_tablesInv ht (rerouteCall_tablesInv ht hp _ i g) h
  | guardExpiry i => exact execGuardExpiry_tablesInv ht hp h
  | setGuard r n => exact serve_tablesInv ht { ht with } h
  | adoptPort r f u => exact serve_tablesInv ht (adoptPort_tablesInv ht f u) h
  | exchangeRestart r => exact serve_tablesInv ht (exchangeRestart_tablesInv ht) h
  | defineGroupDefine r g a => exact serve_tablesInv ht (defineGroup_tablesInv ht g a) h
  | defineGroupRemove r g f => exact serve_tablesInv ht (removeGroup_tablesInv ht g f) h
  | setGroupStateBlock r g => exact serve_tablesInv ht (blockGroup_tablesInv ht g) h
  | setGroupStateUnblock r g f => exact serve_tablesInv ht (unblockGroup_tablesInv ht g f) h
  | setReserve r g n => exact serve_tablesInv ht (setReserve_tablesInv ht g n) h
  | circuitMaintOut r c => exact serve_tablesInv ht (circuitOut_tablesInv ht c) h
  | circuitMaintReturn r c f => exact serve_tablesInv ht (circuitReturn_tablesInv ht c f) h
  | writeDest r d f l => exact serve_tablesInv ht (writeDest_tablesInv ht d f l) h
  | writeRouteSet r n l => exact serve_tablesInv ht (writeRouteSet_tablesInv ht n l) h
  | maskChoice r d i m => exact serve_tablesInv ht (maskChoice_tablesInv ht d i m) h
  | setFirst r d i => exact serve_tablesInv ht (setFirst_tablesInv ht d i) h
  | farCongestion r d g n => exact serve_tablesInv ht (farCongestion_tablesInv ht d g n) h
  | farClear r d => exact serve_tablesInv ht (farClear_tablesInv ht d) h
  | restrictionEnd d =>
    exact eventWhen_keeps (P := State.TablesInv) ht (fun hd => openDest_tablesInv ht (ht.dest_le_of_endDue hd)) h
  | periodEnd => exact eventWhen_keeps (P := State.TablesInv) ht (fun _ => endPeriod_tablesInv ht) h
  | writeProfile r n p => exact serve_tablesInv ht (writeProfile_tablesInv ht n p) h
  | setPeriod r n => exact serve_tablesInv ht (setPeriod_tablesInv ht n) h
  | readCongestionGroup r a n => exact serve_tablesInv ht (readCongestion_tablesInv ht a n) h
  | writeLocalOffer r c l => exact serve_tablesInv ht (writeLocalOffer_tablesInv ht c l) h
  | writeCarrierOffer r c l => exact serve_tablesInv ht (writeCarrierOffer_tablesInv ht c l) h
  | confirmAgreement r c n => exact serve_tablesInv ht (confirmAgreement_tablesInv ht c n) h
  | withdrawAgreement r c => exact serve_tablesInv ht (withdrawAgreement_tablesInv ht c) h
  | writeTariff r c n v => exact serve_tablesInv ht (writeTariff_tablesInv ht c n v) h
  | writeBands r l => exact serve_tablesInv ht (writeBands_tablesInv ht l) h
  | closePeriod r => exact serve_tablesInv ht (closePeriod_tablesInv ht) h
  | automaticClose =>
    rw [exec, execAutomaticClose] at h
    have hclear : { s with sts := { s.sts with closeDue := false } }.TablesInv := { ht with }
    refine eventWhen_keeps (P := State.TablesInv) ht (fun _ => ?_) h
    exact performClose_tablesInv hclear
  | setAutoCloseOff r => exact serve_tablesInv ht { ht with } h
  | setAutoCloseSecond r f n => exact serve_tablesInv ht (setAutoCloseSecond_tablesInv ht f n) h
  | releaseBank r k => exact serve_tablesInv ht (releaseBank_tablesInv ht k) h
  | _ => exact exec_tablesInv_of_untouched ht h (by simp [touches])

theorem exec_queueInv (ht : s.TablesInv) (hq : s.QueueInv) (h : exec c s = .next t) : t.QueueInv := by
  cases c with
  | powerOnReset pins =>
    obtain rfl := next_inj h
    exact reset_queueInv.of_crt rfl
  | route r d n inb => exact serve_queueInv hq (routeCall_queueInv hq n inb) h
  | confirm r i g => exact serve_queueInv hq (confirmCall_queueInv hq _ i g) h
  | answer r i g => exact serve_queueInv hq (answerCall_queueInv hq _ i g) h
  | release r i g => exact serve_queueInv hq (releaseCall_queueInv hq _ i g) h
  | reroute r i g => exact serve_queueInv hq (rerouteCall_queueInv hq _ i g) h
  | guardExpiry i => exact execGuardExpiry_queueInv ht hq h
  | setGuard r n => exact serve_queueInv hq (hq.congr rfl (fun _ => Iff.rfl) fun _ => rfl) h
  | adoptPort r f u => exact serve_queueInv hq (adoptPort_queueInv hq f u) h
  | exchangeRestart r => exact serve_queueInv hq (exchangeRestart_queueInv ht hq) h
  | _ => exact exec_queueInv_of_untouched hq h (by simp [touches])

/-- Settles O57: the command at the front writes each table within its range, and a record leaves the queue when it is made and comes back when it is freed. -/
theorem stepsKeepTablesAndQueue : Obligations.StepsKeepTablesAndQueue := by
  intro s t ht hq hp h
  unfold step at h
  split at h
  · exact next_inj h ▸ ⟨ht, hq⟩
  · rename_i c rest _
    have ht' : { s with pending := rest }.TablesInv := { ht with }
    have hq' : { s with pending := rest }.QueueInv := hq.of_crt rfl
    exact ⟨exec_tablesInv ht' hq' (hp.of_blocks rfl rfl) h, exec_queueInv ht' hq' h⟩

end Steps

end Sys2Proof.Machine
end

section
/-! SUPPORT. Handles (R27), and the requests that settle the life of a call record: CONFIRM (R33), ANSWER (R34, R120), SET_GUARD (R42) and ADOPT_PORT (R43). -/

namespace Sys2Proof.Machine

open Sys2Proof

/-! ### Handles -/

section Handles

variable {s : State} {p : PortId} {i g : Nat} {e : Result} {x : CallRecord}

theorem findOwnCall_error (h : findCall s i g = .error e) : findOwnCall s p i g = .error e := by
  simp only [findOwnCall, h]

/-- The owner is checked last (R27). -/
theorem findOwnCall_notOwner (h : findCall s i g = .ok x) (ho : x.owner ≠ p) :
    findOwnCall s p i g = .error .notOwner := by
  simp only [findOwnCall, h, if_neg ho]

theorem confirmCall_error (h : findOwnCall s p i g = .error e) : confirmCall p i g s = (⟨e, []⟩, s) := by
  simp only [confirmCall, h, Reply.plain]

theorem answerCall_error (h : findOwnCall s p i g = .error e) : answerCall p i g s = (⟨e, []⟩, s) := by
  simp only [answerCall, h, Reply.plain]

theorem releaseCall_error (h : findOwnCall s p i g = .error e) : releaseCall p i g s = (⟨e, []⟩, s) := by
  simp only [releaseCall, h, Reply.plain]

theorem rerouteCall_error (h : findOwnCall s p i g = .error e) : rerouteCall p i g s = (⟨e, []⟩, s) := by
  simp only [rerouteCall, h, Reply.plain]

/-- The four requests that only the owner may make refuse a handle at fault and change nothing. -/
theorem exec_ownHandle_error {r : Requester} {c : Instr} (h : s.inService r c = true)
    (hc : c = .confirm r i g ∨ c = .answer r i g ∨ c = .release r i g ∨ c = .reroute r i g)
    (he : findOwnCall s r.port i g = .error e) : exec c s = .next (s.deliver r c ⟨e, []⟩) := by
  rcases hc with rfl | rfl | rfl | rfl
  · exact serve_eq h _ (confirmCall_error he)
  · exact serve_eq h _ (answerCall_error he)
  · exact serve_eq h _ (releaseCall_error he)
  · exact serve_eq h _ (rerouteCall_error he)

end Handles

/-- Settles O21: the first two checks are the same for all five requests, and the third is that of the four that only the owner may make. -/
theorem handlesAreCheckedInOrder : Obligations.HandlesAreCheckedInOrder := by
  intro r i g s c h hc
  have hown : c ≠ .queryCall r i g →
      c = .confirm r i g ∨ c = .answer r i g ∨ c = .release r i g ∨ c = .reroute r i g := fun hne => by
    simpa only [hne, or_false] using hc
  have herror : ∀ e, findCall s i g = .error e → exec c s = .next (s.deliver r c ⟨e, []⟩) := fun e he => by
    by_cases hq : c = .queryCall r i g
    · subst hq
      exact serve_eq h _ (queryCall_error he)
    · exact exec_ownHandle_error h (hown hq) (findOwnCall_error he)
  refine ⟨fun hi => herror _ (findCall_badValue hi), fun hi hs => herror _ (findCall_staleHandle hi hs),
    fun x hi hx hg => ⟨fun hne ho => ?_, fun hq => ?_⟩⟩
  · exact exec_ownHandle_error h (hown hne) (findOwnCall_notOwner (findCall_eq_ok hi hx hg) ho)
  · subst hq
    exact serve_eq h _ (queryCall_eq hi hx hg)

/-! ### CONFIRM -/

section Confirm

variable {s : State} {p : PortId} {i g : Nat} {x : CallRecord}

@[simp] theorem holdOutbound_crt (r : CallRecord) (s : State) : (holdOutbound r s).crt = s.crt :=
  (holdOutbound_sameBut s r).crt.resolve_left (by decide)

theorem holdOutbound_groups (r : CallRecord) (s : State) : (holdOutbound r s).cpl.groups = s.cpl.groups := by
  unfold holdOutbound
  split <;> rfl

/-- The outbound circuit of a record becomes BUSY, its mark kept (R19). -/
theorem holdOutbound_circuit (r : CallRecord) (s : State) (c : Nat) : (holdOutbound r s).circuit c =
    if r.outbound.map (fun o => o.circuit) = some c then { s.circuit c with state := .busy } else s.circuit c := by
  unfold holdOutbound
  cases ho : r.outbound with
  | none => rfl
  | some o =>
    simp only [holdCircuit_circuit, Option.map_some, Option.some.injEq]
    by_cases hc : c = o.circuit
    · subst hc; simp
    · rw [if_neg hc, if_neg fun h => hc h.symm]

theorem confirmCall_reserved (hf : findOwnCall s p i g = .ok x) (hst : x.state = .reserved) :
    confirmCall p i g s =
      (⟨.done, []⟩, holdOutbound x (s.setCall i (some { x with state := .seized, deadline := none }))) := by
  simp only [confirmCall, hf, hst, Reply.plain]

theorem confirmCall_displaced (hf : findOwnCall s p i g = .ok x) (hst : x.state = .displaced) :
    confirmCall p i g s = (⟨.displaced, []⟩, s) := by
  simp only [confirmCall, hf, hst, Reply.plain]

theorem confirmCall_wrongState (hf : findOwnCall s p i g = .ok x) (hst : x.state = .seized ∨ x.state = .answered) :
    confirmCall p i g s = (⟨.wrongState, []⟩, s) := by
  rcases hst with hst | hst <;> simp only [confirmCall, hf, hst, Reply.plain]

end Confirm

/-- Settles O22: a confirmation rewrites the record and seizes its outbound circuit, and the other states are refused. -/
theorem confirmSeizesAReservation : Obligations.ConfirmSeizesAReservation := by
  intro r i g s x h hi hx hg ho
  have hf := findOwnCall_eq_ok hi hx hg ho
  refine ⟨fun hst => ?_, fun hst => serve_eq h _ (confirmCall_displaced hf hst),
    fun hst => serve_eq h _ (confirmCall_wrongState hf hst)⟩
  have hsame := confirmCall_sameBut s r.port i g
  rw [confirmCall_reserved hf hst] at hsame
  refine ⟨_, serve_eq h _ (confirmCall_reserved hf hst), ?_, fun i' hne => ?_, ?_, ?_, fun c => ?_,
    (hsame.mono (by simp)).deliver (by simp) r _ _, deliver_pct_congr (hsame.pct.resolve_left (by decide)) r _ _⟩
  · rw [State.deliver_call, State.call, holdOutbound_crt]
    exact (State.setCall_call _ _ _ _).trans (if_pos rfl)
  · rw [State.deliver_call, State.call, holdOutbound_crt]
    exact (State.setCall_call _ _ _ _).trans (if_neg hne)
  · rw [State.deliver_crt, holdOutbound_crt]
    rfl
  · rw [State.deliver_cpl, holdOutbound_groups]
    rfl
  · rw [State.deliver_circuit, holdOutbound_circuit, State.setCall_circuit]

/-! ### ANSWER -/

section Answer

variable {s : State} {p : PortId} {i g : Nat} {x : CallRecord}

theorem answerCall_seized (hf : findOwnCall s p i g = .ok x) (hst : x.state = .seized) :
    answerCall p i g s =
      (⟨.done, []⟩, s.setCall i (some { x with state := .answered, answer := some ⟨s.now, s.bandNow⟩ })) := by
  simp only [answerCall, hf, hst, Reply.plain]

theorem answerCall_wrongState (hf : findOwnCall s p i g = .ok x) (hst : x.state ≠ .seized) :
    answerCall p i g s = (⟨.wrongState, []⟩, s) := by
  simp only [answerCall, hf]
  split
  · exact absurd (by assumption) hst
  all_goals rfl

end Answer

section Bands

variable {l : List SwitchPoint} {n : Nat} {p : SwitchPoint}

/-- The last of ascending switch points is the one that no other exceeds. -/
theorem getLast?_eq_of_ascending (hl : l.Pairwise fun p q => p.second < q.second) (hp : p ∈ l)
    (hmax : ∀ q ∈ l, q.second ≤ p.second) : l.getLast? = some p := by
  rcases List.eq_nil_or_concat l with rfl | ⟨init, last, rfl⟩
  · cases hp
  rw [List.concat_eq_append] at hl hp hmax ⊢
  rw [List.getLast?_concat]
  rcases List.mem_append.1 hp with hp | hp
  · have hlt := (List.pairwise_append.1 hl).2.2 p hp last (by simp)
    have hle := hmax last (by simp)
    omega
  · rw [List.mem_singleton.1 hp]

/-- With a point at or before the second, the latest such point's band is in force (R120). -/
theorem bandAt_of_latest (hl : l.Pairwise fun p q => p.second < q.second) (hp : p ∈ l) (hn : p.second ≤ n)
    (hmax : ∀ q ∈ l, q.second ≤ n → q.second ≤ p.second) : bandAt l n = p.band := by
  have hlast : (l.filter fun q => decide (q.second ≤ n)).getLast? = some p := by
    refine getLast?_eq_of_ascending (hl.filter _) (List.mem_filter.2 ⟨hp, decide_eq_true hn⟩) fun q hq => ?_
    obtain ⟨hm, hle⟩ := List.mem_filter.1 hq
    exact hmax q hm (of_decide_eq_true hle)
  simp only [bandAt, hlast]

/-- Before the first point of the day the last point's band is in force (R120). -/
theorem bandAt_of_before (hlast : l.getLast? = some p) (hn : ∀ q ∈ l, n < q.second) : bandAt l n = p.band := by
  have hnone : (l.filter fun q => decide (q.second ≤ n)) = [] :=
    List.filter_eq_nil_iff.2 fun q hq hle => Nat.not_lt.2 (of_decide_eq_true hle) (hn q hq)
  simp only [bandAt, hnone, List.getLast?_nil, hlast]

end Bands

/-- Settles O23: an answer rewrites a SEIZED record alone, and the band lookup takes the latest point, wrapping over midnight. -/
theorem answerLocksTimeAndBand : Obligations.AnswerLocksTimeAndBand := by
  refine ⟨fun r i g s x h hi hx hg ho => ?_, fun l n hl => ⟨fun p hp hn hmax => bandAt_of_latest hl hp hn hmax,
    fun p hlast hn => bandAt_of_before hlast hn, fun hnil => by rw [hnil]; rfl⟩⟩
  have hf := findOwnCall_eq_ok hi hx hg ho
  refine ⟨fun hst => ?_, fun hst => serve_eq h _ (answerCall_wrongState hf hst)⟩
  refine ⟨_, serve_eq h _ (answerCall_seized hf hst), ?_, fun i' hne => ?_, ?_,
    ((setCall_sameBut s i _).mono (by simp)).deliver (by simp) r _ _, deliver_pct_congr (by rfl) r _ _⟩
  · rw [State.deliver_call, State.setCall_call, if_pos rfl]
    rfl
  · rw [State.deliver_call, State.setCall_call, if_neg hne]
  · rw [State.deliver_crt]
    rfl

/-! ### SET_GUARD and ADOPT_PORT -/

section Adoption

variable {s : State}

theorem clamp_one_eq_iff {hi : Nat} (h : 1 ≤ hi) (n : Nat) : clamp 1 hi n = n ↔ ¬ (n = 0 ∨ hi < n) := by
  rw [clamp_one hi n h]
  split
  · omega
  · split <;> omega

theorem setGuard_eq (n : Nat) (s : State) : setGuard n s = (⟨if n = 0 ∨ 60 < n then .adjusted else .done, []⟩,
    { s with crt := { s.crt with guardSeconds := if n = 0 then 1 else if 60 < n then 60 else n } }) := by
  have hiff := clamp_one_eq_iff (hi := Config.maxGuardSeconds) (by decide) n
  rw [setGuard, doneOr_ne, if_congr hiff rfl rfl, ite_not, clamp_one _ _ (by decide)]
  rfl

/-- A port's number names it, and no other (R173). -/
theorem portOf_eq_some_iff (n : Nat) (p : PortId) : portOf n = some p ↔ portNumber p = n := by
  constructor
  · intro h
    unfold portOf at h
    split at h <;> cases h <;> rfl
  · rintro rfl
    cases p <;> rfl

theorem portNumber_le (p : PortId) : portNumber p ≤ 3 := by cases p <;> decide

theorem mayAdopt_iff (r : Role) : mayAdopt r = true ↔ r = .call ∨ r = .both := by
  simp [mayAdopt]

theorem not_mayAdopt {r : Role} (h : r = .off ∨ r = .mgmt) : mayAdopt r = false := by
  rcases h with rfl | rfl <;> rfl

/-- The live records of a port, counted over the listed ones or over every index. -/
theorem ownedCount_eq (ht : s.TablesInv) (f : PortId) :
    ownedCount s f = (List.range 16384).countP fun i => (s.call i).any fun x => decide (x.owner = f) := by
  have hlisted : ∀ e ∈ s.crt.calls, s.call e.1 = e.2 := fun e he => get_of_mem_of_wf _ _ ht.calls _ _ he
  have hlive : ∀ v : Option CallRecord, (v.any fun x => decide (x.owner = f)) = true → v.isSome = true := by
    intro v hv
    obtain ⟨r, rfl, -⟩ := (Option.any_eq_true _ _).1 hv
    rfl
  calc ownedCount s f
      = s.crt.calls.countP (fun e => (e.2.any fun x => decide (x.owner = f)) && e.2.isSome) :=
        List.countP_congr fun e _ => by
          rw [Bool.and_eq_true]
          exact ⟨fun h => ⟨h, hlive _ h⟩, fun h => h.1⟩
    _ = (s.crt.calls.filter fun e => e.2.isSome).countP (fun e => (s.call e.1).any fun x => decide (x.owner = f)) := by
        rw [← List.countP_filter]
        exact List.countP_congr fun e he => by rw [hlisted e (List.mem_of_mem_filter he)]
    _ = (liveIndices s).countP (fun i => (s.call i).any fun x => decide (x.owner = f)) := by
        rw [liveIndices, List.countP_map]
        rfl
    _ = (List.range 16384).countP fun i => (s.call i).any fun x => decide (x.owner = f) := by
        rw [liveIndices_eq ht, List.countP_filter]
        exact List.countP_congr fun i _ => by
          rw [Bool.and_eq_true]
          exact ⟨fun h => h.1, fun h => ⟨h, hlive _ h⟩⟩

/-- An adoption tells the port that takes the records over how many there were (R43). -/
theorem adoptCalls_pct (f u : PortId) (s : State) :
    (adoptCalls f u s).pct = (s.raiseTo u (.recordsAdopted f (ownedCount s f))).pct := by
  unfold adoptCalls
  exact raiseTo_pct_congr rfl rfl _ _

theorem adoptPort_done {a b : Nat} {f u : PortId} (hf : portNumber f = a) (hu : portNumber u = b) (hne : f ≠ u)
    (hrole : (s.port u).role = .call ∨ (s.port u).role = .both) :
    adoptPort a b s = (⟨.done, beBytes 2 (ownedCount s f)⟩, adoptCalls f u s) := by
  have hadopt : mayAdopt (s.port u).role = true := (mayAdopt_iff _).2 hrole
  simp [adoptPort, (portOf_eq_some_iff a f).2 hf, (portOf_eq_some_iff b u).2 hu, hne, hadopt]

/-- An adoption names two different ports, the second of a role that takes calls, or is refused (R43). -/
theorem adoptPort_badValue {a b : Nat} (h : 3 < a ∨ 3 < b ∨ a = b
      ∨ ∀ u, portNumber u = b → (s.port u).role = .off ∨ (s.port u).role = .mgmt) :
    adoptPort a b s = (⟨.badValue, []⟩, s) := by
  unfold adoptPort
  split
  · rename_i f u hf hu
    rw [portOf_eq_some_iff] at hf hu
    rw [if_pos]
    · rfl
    rcases h with h | h | h | h
    · exact absurd (hf ▸ portNumber_le f) (Nat.not_le.2 h)
    · exact absurd (hu ▸ portNumber_le u) (Nat.not_le.2 h)
    · refine .inl (Option.some.inj ?_)
      rw [← (portOf_eq_some_iff a f).2 hf, h, (portOf_eq_some_iff b u).2 hu]
    · exact .inr (by rw [not_mayAdopt (h u hu)]; rfl)
  · rfl

end Adoption

/-- Settles O26: SET_GUARD writes the clamped time alone, and an adoption changes owners alone. -/
theorem guardTimeAndAdoption : Obligations.GuardTimeAndAdoption := by
  refine ⟨fun r n s h => ?_, fun r a b s h => ⟨fun f u hf hu hne hrole => ?_, fun hbad => ?_⟩⟩
  · refine ⟨_, serve_eq h _ (setGuard_eq n s), State.deliver_crt _ _ _ _,
      ((sameBut_crt s _).mono (by simp)).deliver (by simp) r _ _, deliver_pct_congr (by rfl) r _ _⟩
  · have hsame : s.SameBut [.pct, .crt] (adoptCalls f u s) :=
      ((sameBut_crt s _).mono (by simp)).trans ((raiseTo_sameBut _ _ _).mono (by simp))
    refine ⟨_, ownedCount s f, serve_eq h _ (adoptPort_done hf hu hne hrole), fun ht => ownedCount_eq ht f,
      fun i => ?_, ?_, hsame.deliver (by simp) r _ _, deliver_pct_congr (adoptCalls_pct f u s) r _ _⟩
    · rw [State.deliver_call, adoptCalls_call]
      rfl
    · rw [State.deliver_crt]
      rfl
  · exact serve_eq h _ (adoptPort_badValue hbad)

end Sys2Proof.Machine
end

section
/-! SUPPORT. The checks of an inbound circuit that refuse it (R29, R30), and REROUTE (R38, R69). -/

namespace Sys2Proof.Machine

open Sys2Proof

/-! ### The refusals of an inbound circuit -/

section Refusals

variable {s : State} {c : Nat}

/-- A call whose inbound circuit is refused adds nothing but the reply (R29). -/
theorem routeCall_inboundRefused {p : PortId} {d n : Nat} {cls : CallClass} {e : Result} (hd : d ≤ 4095)
    (hcls : classOf n = some cls) (hq : queueList s.crt.queue ≠ []) (he : checkInbound s c = .error e) :
    routeCall p d n (some c) s = (⟨e, []⟩, s) := by
  obtain ⟨i, rest, hq⟩ := List.exists_cons_of_ne_nil hq
  rw [routeCall_eq hd hcls hq]
  simp only [routeInbound, he, Reply.plain]

theorem checkInbound_badNumber (hc : 16383 < c) : checkInbound s c = .error .badValue := if_pos hc

theorem checkInbound_unassigned (ht : s.TablesInv) (hc : c ≤ 16383)
    (hno : ∀ g x, s.group g = some x → groupHolds c x = false) : checkInbound s c = .error .groupBlocked := by
  have hc' : ¬ Config.lastCircuit < c := Nat.not_lt.2 hc
  simp only [checkInbound, if_neg hc', groupOf_eq_none ht hno]

section Assigned

variable {g : Nat} {x : Group} (ht : s.TablesInv) (hp : s.PoolInv) (hc : c ≤ 16383) (hg : s.group g = some x)
  (hh : groupHolds c x = true)

include ht hp hc hg hh

theorem checkInbound_blocked (hb : x.state = .blocked) : checkInbound s c = .error .groupBlocked := by
  have hc' : ¬ Config.lastCircuit < c := Nat.not_lt.2 hc
  simp only [checkInbound, if_neg hc', groupOf_of_holds ht hp hg hh, hg, if_pos hb]

variable (hb : x.state ≠ .blocked)

include hb

theorem checkInbound_outgoing (hdir : x.direction = .outgoing) : checkInbound s c = .error .badValue := by
  have hc' : ¬ Config.lastCircuit < c := Nat.not_lt.2 hc
  simp only [checkInbound, if_neg hc', groupOf_of_holds ht hp hg hh, hg, if_neg hb, if_pos hdir]

variable (hdir : x.direction ≠ .outgoing)

include hdir

theorem checkInbound_maint (hst : (s.circuit c).state = .maint) : checkInbound s c = .error .circuitOut := by
  have hc' : ¬ Config.lastCircuit < c := Nat.not_lt.2 hc
  simp only [checkInbound, if_neg hc', groupOf_of_holds ht hp hg hh, hg, if_neg hb, if_neg hdir, hst]

theorem checkInbound_busy (hst : (s.circuit c).state = .busy) : checkInbound s c = .error .circuitBusy := by
  have hc' : ¬ Config.lastCircuit < c := Nat.not_lt.2 hc
  simp only [checkInbound, if_neg hc', groupOf_of_holds ht hp hg hh, hg, if_neg hb, if_neg hdir, hst]

/-- A RESERVED circuit under LOCAL_WINS is refused as glare (R30). -/
theorem checkInbound_localWins (hst : (s.circuit c).state = .reserved) (hglare : x.glare = .localWins) :
    checkInbound s c = .error .glare := by
  have hc' : ¬ Config.lastCircuit < c := Nat.not_lt.2 hc
  simp only [checkInbound, if_neg hc', groupOf_of_holds ht hp hg hh, hg, if_neg hb, if_neg hdir, hst, hglare]

end Assigned

end Refusals

/-- Settles O35: each check of R29 that fails refuses the call, before any record, circuit or count is touched. -/
theorem inboundCircuitsAreChecked : Obligations.InboundCircuitsAreChecked := by
  intro r d n c cls s h ht hp hd hcls hq
  have hrefuse : ∀ e, checkInbound s c = .error e →
      exec (.route r d n (some c)) s = .next (s.deliver r (.route r d n (some c)) ⟨e, []⟩) :=
    fun e he => serve_eq h _ (routeCall_inboundRefused hd hcls hq he)
  refine ⟨fun hc => hrefuse _ (checkInbound_badNumber hc), fun hc hno => hrefuse _ (checkInbound_unassigned ht hc hno),
    fun g x hc hg hh => ⟨fun hb => ?_, fun hb hdir => ?_, fun hb hdir hst => ?_, fun hb hdir hst => ?_,
      fun hb hdir hst hglare => ?_⟩⟩
  · exact hrefuse _ (checkInbound_blocked ht hp hc hg hh hb)
  · exact hrefuse _ (checkInbound_outgoing ht hp hc hg hh hb hdir)
  · exact hrefuse _ (checkInbound_maint ht hp hc hg hh hb hdir hst)
  · exact hrefuse _ (checkInbound_busy ht hp hc hg hh hb hdir hst)
  · exact hrefuse _ (checkInbound_localWins ht hp hc hg hh hb hdir hst hglare)

/-! ### REROUTE -/

section Reroute

variable {s s' : State} {p : PortId} {i g : Nat} {x : CallRecord} {w : Winner} {y : Group}

theorem rerouteCall_wrongState (hf : findOwnCall s p i g = .ok x) (hst : x.state ≠ .displaced) :
    rerouteCall p i g s = (⟨.wrongState, []⟩, s) := by
  simp only [rerouteCall, hf]
  split
  · exact absurd (by assumption) hst
  all_goals rfl

theorem rerouteCall_failed {e : Reason} (hf : findOwnCall s p i g = .ok x) (hst : x.state = .displaced)
    (hsel : selectRoute x.dest x.cls (x.inbound.map fun b => b.group) s = (.error e, s')) :
    rerouteCall p i g s = (⟨.noRoute, beBytes 1 (reasonCode e)⟩, s') := by
  simp only [rerouteCall, hf, hst, rerouteRecord, hsel, Reply.noRoute]

theorem rerouteCall_placed (hf : findOwnCall s p i g = .ok x) (hst : x.state = .displaced)
    (hsel : selectRoute x.dest x.cls (x.inbound.map fun b => b.group) s = (.ok w, s')) :
    rerouteCall p i g s = completeReroute i g x w s' := by
  simp only [rerouteCall, hf, hst, rerouteRecord, hsel]

theorem completeReroute_call (k : Nat) : (completeReroute i g x w s).2.call k =
    if k = i then some (reroutedRecord s x w) else s.call k := by
  simp [completeReroute, settleDest]

theorem completeReroute_crt :
    (completeReroute i g x w s).2.crt = { s.crt with calls := (completeReroute i g x w s).2.crt.calls } := by
  simp [completeReroute, settleDest, State.setCall]

/-- The winning group gives up its head circuit (R17, R38). -/
theorem completeReroute_group (hg : s.group w.group = some y) (k : Nat) : (completeReroute i g x w s).2.group k =
    if k = w.group then some { y with freeList := y.freeList.tail, busy := y.busy + 1 } else s.group k := by
  simp [completeReroute, settleDest, outboundHunt_group, hg]

/-- The winning circuit, which was IDLE and without a mark, is RESERVED. -/
theorem completeReroute_circuit {inbound : Option Nat} (hp : s.PoolInv) (hw : s.Wins inbound w y) (c : Nat) :
    (completeReroute i g x w s).2.circuit c = if c = w.circuit then ⟨.reserved, false⟩ else s.circuit c := by
  have hidle := (((hp.groups _ _ hw.group).free _).1 (List.mem_of_mem_head? hw.head)).2
  have hmark := hp.mark_of_not_held ((held_eq_false_iff _).2 (.inl hidle))
  show (outboundHunt w.group w.circuit s).circuit c = _
  simp only [outboundHunt_circuit _ _ _ _ hw.group, hmark]

theorem completeReroute_dest {d : Nat} (h : d ≠ x.dest) : (completeReroute i g x w s).2.dest d = s.dest d := by
  rw [completeReroute, settleDest, State.setDest_dest, if_neg h]
  show (outboundHunt w.group w.circuit s).dest d = _
  simp [State.dest]

theorem completeReroute_rse : (completeReroute i g x w s).2.rse
    = { s.rse with dests := (completeReroute i g x w s).2.rse.dests } := by
  simp [completeReroute, settleDest, State.setDest]

theorem completeReroute_sameBut : s.SameBut [.cpl, .crt, .rse] (completeReroute i g x w s).2 :=
  (((outboundHunt_sameBut s w.group w.circuit).mono (by simp)).trans ((setCall_sameBut _ i _).mono (by simp))).trans
    ((setDest_sameBut _ x.dest _).mono (by simp))

/-- The receivable slot that R113 describes. -/
theorem receivableFor_eq (s : State) (n : Nat) :
    receivableFor s n = match (s.agreement n).state with | .confirmed m => m | _ => 0 := by
  unfold receivableFor
  cases (s.agreement n).state <;> rfl

/-- The inbound side of a record placed anew: its slot, where it has one, is locked again (R38, R113). -/
theorem relockInbound_eq (s : State) (b : Inbound) : relockInbound s b =
    { b with receivable := b.receivable.map fun _ =>
        match (s.agreement (s.carrierOf b.group)).state with | .confirmed m => m | _ => 0 } :=
  congrArg (fun n => { b with receivable := b.receivable.map fun _ => n }) (receivableFor_eq s _)

/-- The record placed anew depends on the pool, the agreements, the levels and the clock alone, which a walk leaves. -/
theorem State.Counted.reroutedRecord (h : s.Counted s') (x : CallRecord) (w : Winner) :
    Machine.reroutedRecord s' x w = Machine.reroutedRecord s x w := by
  have hrouted := h.routedRecord x.owner x.dest x.cls .originating w
  have hout : outboundOf s' x.cls w = outboundOf s x.cls w := Option.some.inj (congrArg CallRecord.outbound hrouted)
  have hdeadline : s'.guardDeadline = s.guardDeadline := Option.some.inj (congrArg CallRecord.deadline hrouted)
  have hrelock : relockInbound s' = relockInbound s := funext fun b => by
    simp only [relockInbound, receivableFor, State.agreement, h.cau, State.carrierOf_congr s s' (by rw [h.cpl])]
  rw [Machine.reroutedRecord, Machine.reroutedRecord, hout, hdeadline, hrelock]

end Reroute

/-- Settles O37: the walk changes its counts alone; where it wins, the record takes the winning circuit, and no other record, group or circuit changes. -/
theorem reroutePlacesADisplacedCall : Obligations.ReroutePlacesADisplacedCall := by
  intro r i g s s' x res h hi hx hg ho hp hsel
  have hf := findOwnCall_eq_ok hi hx hg ho
  refine ⟨fun hst => serve_eq h _ (rerouteCall_wrongState hf hst), fun hst e he => ?_, fun hst w hw => ?_⟩
  · subst he
    obtain ⟨records, rfl⟩ := selectRoute_state hsel
    exact ⟨serve_eq h _ (rerouteCall_failed hf hst hsel), rfl⟩
  · subst hw
    obtain ⟨y, hwins⟩ := selectRoute_wins hsel
    have hcount := selectRoute_counted hsel
    have hwins' := hcount.wins hwins
    have hp' : s'.PoolInv := hp.congr hcount.group hcount.circuit hcount.call
    have hexec : exec (.reroute r i g) s = _ :=
      serve_eq (u := (completeReroute i g x w s').2) h _ (rerouteCall_placed hf hst hsel)
    have hsame : s'.SameBut [.cpl, .crt, .rse] (completeReroute i g x w s').2 := completeReroute_sameBut
    refine ⟨_, y, hexec, hwins.group, hwins.head, ?_, fun k hk => ?_, ?_, ?_, fun k hk => ?_, fun c => ?_,
      fun d hd => ?_, ?_, ?_, exec_sameBut hexec,
      deliver_pct_congr ((hsame.pct.resolve_left (by decide)).trans hcount.pct) r _ _⟩
    · rw [State.deliver_call, completeReroute_call, if_pos rfl, hcount.reroutedRecord, reroutedRecord,
        outboundOf_eq x.cls hwins.group, funext (relockInbound_eq s)]
      rfl
    · rw [State.deliver_call, completeReroute_call, if_neg hk, hcount.call]
    · rw [State.deliver_crt, ← hcount.crt]
      exact completeReroute_crt
    · rw [State.deliver_group, completeReroute_group hwins'.group, if_pos rfl]
    · rw [State.deliver_group, completeReroute_group hwins'.group, if_neg hk, hcount.group]
    · rw [State.deliver_circuit, completeReroute_circuit hp' hwins', hcount.circuit]
    · rw [State.deliver_dest, completeReroute_dest hd, hcount.dest]
    · rw [State.deliver_rse, ← hcount.rse]
      exact completeReroute_rse
    · rw [State.deliver_cmn]
      exact hsame.cmn.resolve_left (by decide)

end Sys2Proof.Machine
end

section
/-! SUPPORT. What a port keeps to (R156 to R180) under each operation on one port, and the requests of RSE that it has in service (R57). -/

namespace Sys2Proof.Machine

open Sys2Proof

/-! ### Notices, masks and flags -/

/-- `q'` is port `q` but for its notices, its mask, its attention line and its latched flags, which are as a port must have them if those of `q` are. -/
structure Port.Quiet (q q' : Port) : Prop where
  same : ∃ notices mask attention badFrame linkLost noticeLost, q' =
    { q with notices := notices, mask := mask, attention := attention, badFrame := badFrame, linkLost := linkLost,
             noticeLost := noticeLost }
  inv : q.Inv → q'.Inv

section Quiet

variable {q q' q'' : Port}

theorem Port.Quiet.refl (q : Port) : q.Quiet q := ⟨⟨_, _, _, _, _, _, rfl⟩, id⟩

theorem Port.Quiet.trans (h : q.Quiet q') (h' : q'.Quiet q'') : q.Quiet q'' := by
  obtain ⟨_, _, _, _, _, _, rfl⟩ := h.same
  obtain ⟨_, _, _, _, _, _, rfl⟩ := h'.same
  exact ⟨⟨_, _, _, _, _, _, rfl⟩, fun hq => h'.inv (h.inv hq)⟩

theorem Port.Quiet.stage (h : q.Quiet q') : q'.stage = q.stage := by
  obtain ⟨_, _, _, _, _, _, rfl⟩ := h.same
  rfl

theorem Port.Quiet.fifo (h : q.Quiet q') : q'.fifo = q.fifo := by
  obtain ⟨_, _, _, _, _, _, rfl⟩ := h.same
  rfl

theorem Port.Quiet.engineLoad (h : q.Quiet q') : q'.engineLoad = q.engineLoad := by
  obtain ⟨_, _, _, _, _, _, rfl⟩ := h.same
  rfl

/-- A notice queue within its length, empty on a DOWN link, with the attention line that follows it (R177, R180). -/
theorem Port.Inv.attended (h : q.Inv) {notices : List Notice} (hlen : notices.length ≤ Config.maxNotices)
    (hdown : q.link = .down → notices = []) : (attended { q with notices := notices }).Inv :=
  { h with
    notices_length := hlen
    attention := rfl
    down := fun hl => ⟨(h.down hl).1, (h.down hl).2.1, hdown hl⟩ }

theorem offerNotice_quiet (n : Notice) (q : Port) : q.Quiet (offerNotice n q) := by
  obtain ⟨_, _, _, hsame⟩ := offerNotice_spec n q
  refine ⟨⟨_, q.mask, _, q.badFrame, q.linkLost, _, hsame⟩, fun h => ?_⟩
  unfold offerNotice
  split
  · exact h
  rename_i hopen
  rw [not_or] at hopen
  split
  · exact h
  split
  · rename_i hlen
    exact h.attended (by simpa using hlen) fun hl => absurd hl hopen.1
  · exact { h with offFlags := fun ho => absurd ho hopen.2 }

theorem dropNotices_quiet (n : Nat) (q : Port) : q.Quiet (dropNotices n q) :=
  ⟨⟨_, q.mask, _, q.badFrame, q.linkLost, q.noticeLost, rfl⟩, fun h =>
    h.attended ((by simp [List.length_drop] : _ ≤ q.notices.length).trans h.notices_length) fun hl => by rw [(h.down hl).2.2, List.drop_nil]⟩

theorem setMask_quiet (mask : BitVec 6) (q : Port) : q.Quiet { q with mask := mask } :=
  ⟨⟨_, mask, _, _, _, _, rfl⟩, fun h => { h with }⟩

theorem clearFlags_quiet (q : Port) : q.Quiet (clearFlags q) :=
  ⟨⟨_, _, _, false, false, false, rfl⟩, fun h => { h with offFlags := fun _ => ⟨rfl, rfl, rfl⟩ }⟩

end Quiet

/-! ### What no command undoes -/

/-- From `q` to `q'` a port goes on as a port must, with no more requests of RSE in service. -/
structure Port.Keeps (q q' : Port) : Prop where
  inv : q.Inv → q'.Inv
  load : q'.engineLoad ≤ q.engineLoad

theorem Port.Keeps.refl (q : Port) : q.Keeps q := ⟨id, Nat.le_refl _⟩

theorem Port.Quiet.keeps {q q' : Port} (h : q.Quiet q') : q.Keeps q' := ⟨h.inv, h.engineLoad.le⟩

/-! ### The head of a FIFO -/

/-- A port before its next head is examined: what `Port.Inv` says, but for the stage, with no served reply left to send. -/
structure Port.Headless (q : Port) : Prop where
  fifo_length : q.fifo.length ≤ Config.fifoDepth
  holds : holdCount q ≤ Config.maxHolds
  served : (q.replies.countP fun f => !f.hold) = 0
  notices_length : q.notices.length ≤ Config.maxNotices
  attention : q.attention = (decide (q.link = .up) && !q.notices.isEmpty)
  down : q.link = .down → q.fifo = [] ∧ q.replies = [] ∧ q.notices = []
  up : q.link = .up → q.line = .good ∧ q.role ≠ .off
  offFlags : q.role = .off → q.badFrame = false ∧ q.linkLost = false ∧ q.noticeLost = false
  detached : ∀ h ∈ q.detached, headRefusal q.role h = none

section Heads

variable {q : Port} {h : Request} {rest : List Request}

theorem holdCount_append_served (l : List ReplyFrame) (bytes : List Byte) :
    (l ++ [(⟨false, bytes⟩ : ReplyFrame)]).countP (fun f => f.hold) = l.countP fun f => f.hold := by
  simp

theorem headInService_cons (hf : q.fifo = h :: rest) (f : Request → Bool) :
    headInService q f = (decide (q.stage = .inService ∨ q.stage = .checked) && f h) := by
  simp [headInService, hf]

theorem Port.Inv.headless (h : q.Inv) (hst : q.stage ≠ .answered) : q.Headless :=
  { h with served := h.served.trans (if_neg hst) }

/-- A port without requests is without a head. -/
theorem Port.Headless.empty (hq : q.Headless) (hf : q.fifo = []) : ({ q with stage := .noHead } : Port).Inv :=
  { hq with
    stage_noHead := ⟨fun _ => hf, fun _ => rfl⟩
    stage_checked := nofun
    permitted := nofun
    waiting := nofun }

/-- A head that is answered has its reply at the tail of the reply list (R167). -/
theorem Port.Headless.answered (hq : q.Headless) (hf : q.fifo = h :: rest) (time : Nat) (bytes : List Byte) :
    ({ q with stage := .answered, headAt := time, replies := q.replies ++ [⟨false, bytes⟩] } : Port).Inv :=
  { hq with
    stage_noHead := ⟨nofun, fun hnil => by simp [hf] at hnil⟩
    stage_checked := nofun
    holds := (congrArg (· ≤ _) (holdCount_append_served q.replies bytes)).mpr hq.holds
    served := by simp [hq.served]
    down := fun hl => by simp [(hq.down hl).1] at hf
    permitted := nofun
    waiting := nofun }

/-- A head that has passed the checks stands in a stage that its owner gives it (R57, R166). -/
theorem Port.Headless.passed (hq : q.Headless) (hf : q.fifo = h :: rest) (hr : headRefusal q.role h = none)
    {stage : HeadStage} (time : Nat)
    (hst : ownedByEngine h = true ∧ (stage = .waiting ∨ stage = .inService)
      ∨ ownedByEngine h = false ∧ stage = .checked) :
    ({ q with stage := stage, headAt := time } : Port).Inv :=
  { hq with
    stage_noHead := ⟨fun he => by simp_all, fun hnil => by simp [hf] at hnil⟩
    stage_checked := fun he => by simp_all
    served := hq.served.trans (if_neg fun he => by simp_all).symm
    permitted := fun _ => by simpa [hf] using hr
    waiting := fun he => by rcases hst with ⟨ho, -⟩ | ⟨-, rfl⟩ <;> simp_all }

theorem checkHead_nil (hf : q.fifo = []) (now : Nat) : checkHead now q = { q with stage := .noHead } := by
  unfold checkHead
  split
  · rfl
  · simp_all

theorem checkHead_refused {e : Result} (hf : q.fifo = h :: rest) (hr : headRefusal q.role h = some e) (now : Nat) :
    checkHead now q = { q with stage := .answered, headAt := now,
                               replies := q.replies ++ [⟨false, replyFrame h.tag (Reply.plain e)⟩] } := by
  simp [checkHead, answerHead, hf, hr]

theorem checkHead_passed (hf : q.fifo = h :: rest) (hr : headRefusal q.role h = none) (now : Nat) :
    checkHead now q = { q with stage := if ownedByEngine h then .waiting else .checked, headAt := now } := by
  simp [checkHead, hf, hr]

/-- The examination of a new head leaves the port as a port must be, whatever its outcome (R165). -/
theorem Port.Headless.checkHead (hq : q.Headless) (now : Nat) : (checkHead now q).Inv := by
  cases hf : q.fifo with
  | nil => exact checkHead_nil hf now ▸ hq.empty hf
  | cons h rest =>
    cases hr : headRefusal q.role h with
    | some e => exact checkHead_refused hf hr now ▸ hq.answered hf now _
    | none =>
      rw [checkHead_passed hf hr now]
      refine hq.passed hf hr now ?_
      cases ho : ownedByEngine h <;> simp

/-- A head just examined is not in service: RSE's waits for a grant. -/
theorem headInService_checkHead (now : Nat) (q : Port) : headInService (checkHead now q) ownedByEngine = false := by
  cases hf : q.fifo with
  | nil => simp [checkHead_nil hf, headInService]
  | cons h rest =>
    cases hr : headRefusal q.role h with
    | some e => simp [checkHead_refused hf hr, headInService]
    | none =>
      rw [checkHead_passed hf hr]
      cases ho : ownedByEngine h <;> simp [headInService, hf, ho]

end Heads

/-! ### The commands on one port -/

section Commands

variable {q q' : Port} {now : Nat}

/-- A port whose head is not in service has its detached requests of RSE in service alone. -/
theorem engineLoad_le_of_idle (hidle : headInService q' ownedByEngine = false)
    (hd : q'.detached.countP ownedByEngine ≤ q.detached.countP ownedByEngine) : q'.engineLoad ≤ q.engineLoad := by
  simp only [Port.engineLoad, hidle]
  simp
  omega

/-- A head that is served goes from in service to answered (R167). -/
theorem answerHead_keeps {h : Request} {rest : List Request} (hst : q.stage = .inService ∨ q.stage = .checked)
    (hf : q.fifo = h :: rest) (a : Reply) : q.Keeps (answerHead a q) := by
  have heq : answerHead a q =
      { q with stage := .answered, headAt := q.headAt, replies := q.replies ++ [⟨false, replyFrame h.tag a⟩] } := by
    simp [answerHead, hf]
  have hne : q.stage ≠ .answered := fun he => by simp [he] at hst
  rw [heq]
  exact ⟨fun hq => (hq.headless hne).answered hf _ _, engineLoad_le_of_idle (by simp [headInService]) (Nat.le_refl _)⟩

/-- A request that a link loss left in service is served and leaves its block (R160). -/
theorem eraseDetached_keeps (f : Request → Bool) (q : Port) :
    q.Keeps { q with detached := q.detached.eraseP f } where
  inv hq := { hq with detached := fun h hm => hq.detached h (List.mem_of_mem_eraseP hm) }
  load := Nat.add_le_add_left (List.eraseP_sublist.countP_le) _

theorem lineGood_keeps (now : Nat) (q : Port) : q.Keeps { q with line := .good, goodSince := now } where
  inv hq := { hq with up := fun hup => ⟨rfl, (hq.up hup).2⟩ }
  load := Nat.le_refl _

/-- What a link loss finds in service is the head, which had passed its checks (R160, R165). -/
theorem mem_headLeftInService {h : Request} (hm : h ∈ headLeftInService now q) :
    h ∈ q.fifo.head? ∧ (q.stage = .inService ∨ q.stage = .checked) := by
  unfold headLeftInService at hm
  split at hm
  · rename_i hst
    exact ⟨by simpa using hm, ((headStage_inService now q).1 hst).imp_right And.left⟩
  · cases hm

theorem countP_headLeftInService (now : Nat) (q : Port) : (headLeftInService now q).countP ownedByEngine
    ≤ if headInService q ownedByEngine then 1 else 0 := by
  unfold headLeftInService
  split
  · rename_i hst
    have hst' := ((headStage_inService now q).1 hst).imp_right And.left
    cases hf : q.fifo with
    | nil => simp
    | cons h rest => simp [headInService_cons hf, hst', List.countP_singleton]
  · simp

/-- A link loss leaves the port empty, with what stood in service detached (R160). -/
theorem linkLoss_keeps (hup : q.link = .up) : q.Keeps { linkLoss now q with line := .lost } where
  inv hq :=
    { hq with
      fifo_length := Nat.zero_le _
      stage_noHead := ⟨fun _ => rfl, fun _ => rfl⟩
      stage_checked := nofun
      holds := Nat.zero_le _
      served := rfl
      notices_length := Nat.zero_le _
      attention := rfl
      down := fun _ => ⟨rfl, rfl, rfl⟩
      up := nofun
      permitted := nofun
      waiting := nofun
      offFlags := fun ho => absurd ho (hq.up hup).2
      detached := fun h hm => by
        rcases List.mem_append.1 hm with hm | hm
        · exact hq.detached h hm
        · obtain ⟨hh, hst⟩ := mem_headLeftInService hm
          exact hq.permitted (.inr hst) h hh }
  load := by
    have hle := countP_headLeftInService now q
    show 0 + (q.detached ++ headLeftInService now q).countP ownedByEngine ≤ q.engineLoad
    rw [List.countP_append, Port.engineLoad]
    omega

theorem lineLost_keeps (now : Nat) (q : Port) : q.Keeps (lineLost now q) := by
  unfold lineLost
  split
  · exact linkLoss_keeps (by assumption)
  · rename_i hdown
    exact ⟨fun hq => { hq with up := fun hup => absurd hup hdown }, Nat.le_refl _⟩

theorem linkUp_keeps (hdue : linkUpDue now q = true) :
    q.Keeps (attended { q with link := .up, fifo := [], stage := .noHead, replies := [] }) := by
  simp only [linkUpDue, Bool.and_eq_true, decide_eq_true_eq] at hdue
  obtain ⟨⟨⟨hrole, hdown⟩, hline⟩, -⟩ := hdue
  refine ⟨fun hq => ?_, engineLoad_le_of_idle (by simp [headInService]) (Nat.le_refl _)⟩
  exact { hq with
    fifo_length := Nat.zero_le _
    stage_noHead := ⟨fun _ => rfl, fun _ => rfl⟩
    stage_checked := nofun
    holds := Nat.zero_le _
    served := rfl
    attention := rfl
    down := nofun
    up := fun _ => ⟨hline, hrole⟩
    permitted := nofun
    waiting := nofun }

/-- A request that finds the FIFO empty is examined as its head (R164, R165). -/
theorem takeHead_keeps (hup : q.link ≠ .down) (hf : q.fifo = []) (h : Request) :
    q.Keeps (checkHead now { q with fifo := q.fifo ++ [h] }) where
  inv hq := by
    have hst : q.stage ≠ .answered := by simp [hq.stage_noHead.2 hf]
    have hless : Port.Headless { q with fifo := q.fifo ++ [h] } :=
      { hq.headless hst with
        fifo_length := by simp [hf, Config.fifoDepth]
        down := fun hl => absurd hl hup }
    exact hless.checkHead now
  load := by
    obtain ⟨_, _, _, heq⟩ := checkHead_spec now { q with fifo := q.fifo ++ [h] }
    exact engineLoad_le_of_idle (headInService_checkHead _ _) (by rw [heq])

/-- A request joins the tail of a FIFO that has room (R164). -/
theorem joinFifo_keeps {h : Request} {rest : List Request} (hup : q.link ≠ .down) (hf : q.fifo = h :: rest)
    (hroom : q.fifo.length < Config.fifoDepth) (h' : Request) : q.Keeps { q with fifo := q.fifo ++ [h'] } where
  inv hq :=
    { hq with
      fifo_length := by simpa using hroom
      stage_noHead := by simpa [hf] using hq.stage_noHead
      stage_checked := by simpa [hf] using hq.stage_checked
      down := fun hl => absurd hl hup
      permitted := by simpa [hf] using hq.permitted
      waiting := by simpa [hf] using hq.waiting }
  load := by simp [Port.engineLoad, headInService, hf]

/-- A full FIFO answers with HOLD, or not at all (R164). -/
theorem holdRequest_keeps (hup : q.link ≠ .down) (h : Request) : q.Keeps (holdRequest h q) := by
  unfold holdRequest
  split
  · rename_i hroom
    refine ⟨fun hq => ?_, Nat.le_refl _⟩
    exact { hq with
      holds := by simpa [holdCount] using hroom
      served := by simpa using hq.served
      down := fun hl => absurd hl hup }
  · exact .refl q

theorem takeRequest_keeps (hup : q.link ≠ .down) (h : Request) : q.Keeps (takeRequest now h q) := by
  unfold takeRequest
  split
  · rename_i hroom
    simp only
    split
    · rename_i hempty
      exact takeHead_keeps hup (List.isEmpty_iff.1 hempty) h
    · rename_i hne
      obtain ⟨h', rest, hf⟩ := List.exists_cons_of_ne_nil (mt List.isEmpty_iff.2 hne)
      exact joinFifo_keeps hup hf hroom h
  · exact holdRequest_keeps hup h

theorem receiveFrame_keeps (bytes : List Byte) (stopFault : Bool) (q : Port) :
    q.Keeps (receiveFrame now bytes stopFault q) := by
  unfold receiveFrame
  split
  · exact .refl q
  rename_i hdown
  split
  · exact takeRequest_keeps hdown _
  · have hup : q.link = .up := by cases hl : q.link <;> simp_all
    exact ⟨fun hq => { hq with offFlags := fun ho => absurd ho (hq.up hup).2 }, Nat.le_refl _⟩

/-- A port with a reply to send has its link UP (R160). -/
theorem Port.Inv.not_down {f : ReplyFrame} {rest : List ReplyFrame} (hq : q.Inv) (hr : q.replies = f :: rest) :
    q.link ≠ .down := fun hl => by simp [(hq.down hl).2.1] at hr

/-- A HOLD reply that has been sent leaves the list (R167). -/
theorem dropHold_keeps {f : ReplyFrame} {rest : List ReplyFrame} (hr : q.replies = f :: rest) (hf : f.hold = true) :
    q.Keeps { q with replies := rest } where
  inv hq :=
    { hq with
      holds := by
        have := hq.holds
        simp only [holdCount, hr, List.countP_cons] at this ⊢
        omega
      served := by simpa [hr, hf] using hq.served
      down := fun hl => absurd hl (hq.not_down hr) }
  load := Nat.le_refl _

/-- A served reply that has been sent takes the head with it, and the next request is examined (R167). -/
theorem dropServed_keeps {f : ReplyFrame} {rest : List ReplyFrame} (hr : q.replies = f :: rest)
    (hf : f.hold = false) : q.Keeps (checkHead now { q with replies := rest, fifo := q.fifo.tail }) where
  inv hq := by
    have hserved : (rest.countP fun f => !f.hold) = 0 := by
      have hone := hq.served
      rw [hr, List.countP_cons_of_pos (by simp [hf])] at hone
      split at hone <;> omega
    have hholds : (rest.countP fun f => f.hold) ≤ Config.maxHolds := by
      have hall := hq.holds
      rwa [holdCount, hr, List.countP_cons_of_neg (by simp [hf])] at hall
    have hless : Port.Headless { q with replies := rest, fifo := q.fifo.tail } :=
      { hq with
        fifo_length := (by simp : q.fifo.tail.length ≤ q.fifo.length).trans hq.fifo_length
        holds := hholds
        served := hserved
        down := fun hl => absurd hl (hq.not_down hr) }
    exact hless.checkHead now
  load := by
    obtain ⟨_, _, _, heq⟩ := checkHead_spec now { q with replies := rest, fifo := q.fifo.tail }
    exact engineLoad_le_of_idle (headInService_checkHead _ _) (by rw [heq])

theorem sendReply_keeps (q : Port) : q.Keeps (sendReply now q) := by
  unfold sendReply
  split
  · exact .refl q
  rename_i f rest hr
  split
  · rename_i hhold
    exact dropHold_keeps hr hhold
  · rename_i hhold
    exact dropServed_keeps hr (Bool.eq_false_iff.2 hhold)

end Commands
end Sys2Proof.Machine
end

section
/-! SUPPORT. Every command keeps every port as it must be, and RSE with one request in service at most (R57, R156 to R180). -/

namespace Sys2Proof.Machine

open Sys2Proof

/-! ### What the blocks' own parts do to the ports -/

/-- Every port is the same in the two states but for its notices, its mask, its attention line and its latched flags. -/
def State.Quiet (s t : State) : Prop := ∀ p, (s.port p).Quiet (t.port p)

section Quiet

variable {s t u : State}

theorem State.Quiet.refl (s : State) : s.Quiet s := fun p => .refl (s.port p)

theorem State.Quiet.trans (h : s.Quiet t) (h' : t.Quiet u) : s.Quiet u := fun p => (h p).trans (h' p)

theorem port_congr (h : t.pct = s.pct) (p : PortId) : t.port p = s.port p := by
  cases p <;> simp only [State.port, h]

theorem quiet_of_pct (h : t.pct = s.pct) : s.Quiet t := fun p => port_congr h p ▸ .refl (s.port p)

theorem State.SameBut.quiet {bs : List Block} (h : s.SameBut bs t) (hb : Block.pct ∉ bs) : s.Quiet t :=
  quiet_of_pct (h.pct.resolve_left hb)

theorem setPort_quiet {p : PortId} {q : Port} (h : (s.port p).Quiet q) : s.Quiet (s.setPort p q) := fun p' => by
  rw [State.setPort_port]
  split
  · rename_i hp
    exact hp ▸ h
  · exact .refl _

variable (s)

theorem raiseAll_quiet (b : NoticeBody) : s.Quiet (s.raiseAll b) := fun p => by
  rw [State.raiseAll_port]
  exact offerNotice_quiet _ _

theorem raiseTo_quiet (p : PortId) (b : NoticeBody) : s.Quiet (s.raiseTo p b) :=
  setPort_quiet (offerNotice_quiet _ _)

/-! The circuit pool and the call records. -/

theorem freeCircuit_quiet (g c : Nat) : s.Quiet (freeCircuit g c s) := by
  have hpct := freeCircuit_pct g c s
  split at hpct
  · exact (raiseAll_quiet s _).trans (quiet_of_pct hpct)
  · exact quiet_of_pct hpct

theorem freeOutbound_quiet (r : CallRecord) : s.Quiet (freeOutbound r s) := by
  unfold freeOutbound
  split
  · exact freeCircuit_quiet s _ _
  · exact .refl s

theorem freeInbound_quiet (r : CallRecord) : s.Quiet (freeInbound r s) := by
  unfold freeInbound
  split
  · exact freeCircuit_quiet s _ _
  · exact .refl s

theorem freeCall_quiet (i : Nat) (r : CallRecord) : s.Quiet (freeCall i r s) :=
  ((freeOutbound_quiet s r).trans (freeInbound_quiet _ r)).trans (quiet_of_pct (freeRecord_pct i _))

theorem expireCall_quiet (i : Nat) (r : CallRecord) : s.Quiet (expireCall i r s) :=
  (freeCall_quiet s i r).trans (raiseTo_quiet _ _ _)

theorem releaseRated_quiet (i : Nat) (r : CallRecord) : s.Quiet (releaseRated i r s).2 :=
  (((accumulateLeg_sameBut s _).trans (accumulateLeg_sameBut _ _)).quiet (by decide)).trans (freeCall_quiet _ i r)

theorem releaseCall_quiet (p : PortId) (i g : Nat) : s.Quiet (releaseCall p i g s).2 := by
  unfold releaseCall
  split
  · exact .refl s
  split
  case h_4 => exact (freeInbound_quiet s _).trans (quiet_of_pct (freeRecord_pct i _))
  all_goals exact releaseRated_quiet s i _

theorem adoptPort_quiet (f t : Nat) : s.Quiet (adoptPort f t s).2 := by
  unfold adoptPort
  split
  · split
    · exact .refl s
    · exact ((sameBut_crt s _).quiet (by decide)).trans (raiseTo_quiet _ _ _)
  · exact .refl s

/-! Routing. -/

theorem displace_quiet (c : Nat) : s.Quiet (displace c s) := by
  unfold displace
  split
  · exact .refl s
  split
  · exact .refl s
  · exact ((setCall_sameBut s _ _).quiet (by decide)).trans (raiseTo_quiet _ _ _)

theorem dropInbound_quiet (plan : InboundPlan) : s.Quiet (dropInbound plan s) := by
  cases plan with
  | originating => exact .refl s
  | take g c => exact .refl s
  | displaced g c => exact freeCircuit_quiet s g c

theorem routeWith_quiet (p : PortId) (d : Nat) (cls : CallClass) (plan : InboundPlan) (i : Nat) :
    s.Quiet (routeWith p d cls plan i s).2 := by
  have hsel := (selectRoute_sameBut s d cls (planGroup plan)).quiet (by decide)
  unfold routeWith
  split <;> rename_i he <;> rw [he] at hsel
  · exact hsel.trans (dropInbound_quiet _ plan)
  · exact hsel.trans ((completeRoute_sameBut _ p d cls plan i _).quiet (by decide))

theorem routeCall_quiet (p : PortId) (d n : Nat) (inb : Option Nat) : s.Quiet (routeCall p d n inb s).2 := by
  unfold routeCall
  split
  · exact .refl s
  split
  · exact .refl s
  split
  · exact .refl s
  unfold routeInbound
  split
  · exact routeWith_quiet s _ _ _ _ _
  split
  · exact .refl s
  · exact routeWith_quiet s _ _ _ _ _
  · exact (displace_quiet s _).trans (routeWith_quiet _ _ _ _ _ _)

theorem rerouteCall_quiet (p : PortId) (i g : Nat) : s.Quiet (rerouteCall p i g s).2 := by
  unfold rerouteCall
  split
  · exact .refl s
  rename_i r _
  have hsel := (selectRoute_sameBut s r.dest r.cls (r.inbound.map (·.group))).quiet (by decide)
  split
  · unfold rerouteRecord
    split <;> rename_i he <;> rw [he] at hsel
    · exact hsel
    · exact hsel.trans (completeReroute_sameBut.quiet (by decide))
  all_goals exact .refl s

theorem openDest_quiet (d : Nat) : s.Quiet (openDest d s) :=
  ((setDest_sameBut s d _).quiet (by decide)).trans (raiseAll_quiet _ _)

theorem farClear_quiet (d : Nat) : s.Quiet (farClear d s).2 := by
  unfold farClear
  split
  · exact .refl s
  split
  · exact .refl s
  · exact openDest_quiet s d

/-! Congestion, agreements and banks. -/

theorem measureEntry_quiet (e : Nat × Option Group) : s.Quiet (measureEntry s e) := by
  unfold measureEntry
  split
  · unfold measureGroup
    simp only
    split
    · exact (setCongestion_sameBut s _ _).quiet (by decide)
    · exact ((setCongestion_sameBut s _ _).quiet (by decide)).trans (raiseAll_quiet _ _)
  · exact .refl s

theorem measureEntries_quiet (l : List (Nat × Option Group)) : s.Quiet (l.foldl measureEntry s) := by
  induction l generalizing s with
  | nil => exact .refl s
  | cons e l ih => exact (measureEntry_quiet s e).trans (ih _)

theorem endPeriod_quiet : s.Quiet (endPeriod s) :=
  (measureEntries_quiet s _).trans (quiet_of_pct rfl)

theorem rewriteAgreement_quiet (c : Nat) (a : Agreement) : s.Quiet (rewriteAgreement c a s) := by
  unfold rewriteAgreement
  simp only
  split
  · exact (setAgreement_sameBut s c a).quiet (by decide)
  · exact ((setAgreement_sameBut s c a).quiet (by decide)).trans (raiseAll_quiet _ _)

theorem writeLocalOffer_quiet (c : Nat) (l : List Nat) : s.Quiet (writeLocalOffer c l s).2 := by
  unfold writeLocalOffer
  split
  · exact .refl s
  · exact rewriteAgreement_quiet s _ _

theorem writeCarrierOffer_quiet (c : Nat) (l : List Nat) : s.Quiet (writeCarrierOffer c l s).2 := by
  unfold writeCarrierOffer
  split
  · exact .refl s
  · exact rewriteAgreement_quiet s _ _

theorem confirmAgreement_quiet (c n : Nat) : s.Quiet (confirmAgreement c n s).2 := by
  unfold confirmAgreement
  split
  · exact .refl s
  split
  · exact rewriteAgreement_quiet s _ _
  all_goals exact .refl s

theorem withdrawAgreement_quiet (c : Nat) : s.Quiet (withdrawAgreement c s).2 := by
  unfold withdrawAgreement
  split
  · exact .refl s
  · exact rewriteAgreement_quiet s _ _

theorem swapBanks_quiet : s.Quiet (swapBanks s) := by
  unfold swapBanks
  simp only
  refine State.Quiet.trans (quiet_of_pct ?_) (raiseAll_quiet _ _)
  rfl

theorem performClose_quiet : s.Quiet (performClose s) := by
  unfold performClose
  split
  · unfold deferClose
    split
    · exact .refl s
    · exact ((sameBut_sts s _).quiet (by decide)).trans (raiseAll_quiet _ _)
  · exact swapBanks_quiet s

theorem closePeriod_quiet : s.Quiet (closePeriod s).2 := by
  unfold closePeriod
  simp only
  split <;> exact performClose_quiet s

theorem releaseBank_quiet (n : Nat) : s.Quiet (releaseBank n s).2 := by
  unfold releaseBank
  split
  · exact .refl s
  split
  · unfold collectBank
    simp only
    have hset := (setBank_sameBut s ‹_› ⟨.available, []⟩).quiet (by decide)
    split
    · exact hset.trans (swapBanks_quiet _)
    · exact hset
  all_goals exact .refl s

/-! PCT. -/

theorem setNoticeMask_quiet (p : PortId) (m : Byte) : s.Quiet (setNoticeMask p m s).2 := by
  unfold setNoticeMask
  split
  · exact .refl s
  · exact setPort_quiet (setMask_quiet _ _)

theorem portStatus_quiet (p : PortId) (n : Nat) : s.Quiet (portStatus p n s).2 := by
  unfold portStatus
  split
  · exact .refl s
  · simp only
    split
    · exact setPort_quiet (clearFlags_quiet _)
    · exact .refl s

end Quiet

/-! ### Every command -/

section Steps

variable {s t : State} {c : Instr}

/-- Every port goes on as a port must, with no more requests of RSE in service. -/
def State.PortsKept (s t : State) : Prop := ∀ p, (s.port p).Keeps (t.port p)

theorem State.Quiet.kept (h : s.Quiet t) : s.PortsKept t := fun p => (h p).keeps

theorem setPort_kept {p : PortId} {q : Port} (h : (s.port p).Keeps q) : s.PortsKept (s.setPort p q) := fun p' => by
  rw [State.setPort_port]
  split
  · rename_i hp
    exact hp ▸ h
  · exact .refl _

theorem Port.Keeps.trans {q q' q'' : Port} (h : q.Keeps q') (h' : q'.Keeps q'') : q.Keeps q'' :=
  ⟨fun hq => h'.inv (h.inv hq), h'.load.trans h.load⟩

/-- A request served whole: its block's part leaves the head in its stage, and the reply answers it (R160, R167). -/
theorem serve_kept {r : Requester} {f : State → Reply × State} (hf : s.Quiet (f s).2)
    (h : serve r c f s = .next t) : s.PortsKept t := by
  rcases (serve_next r c f s t).1 h with ⟨hin, rfl⟩ | ⟨-, rfl⟩
  · refine fun p => (hf p).keeps.trans ?_
    rw [deliver_port]
    split
    · rename_i hp
      cases r with
      | detached p' => exact eraseDetached_keeps _ _
      | head p' =>
        obtain rfl : p = p' := hp
        obtain ⟨hst, q, rest, hfifo, -⟩ := inService_head s p c hin
        rw [← (hf p).stage] at hst
        exact answerHead_keeps hst ((hf p).fifo.trans hfifo) _
    · exact .refl _
  · exact (State.Quiet.refl _).kept

/-- A request whose block's part does not touch PCT. -/
theorem serve_kept_of_sameBut {r : Requester} {f : State → Reply × State} {bs : List Block}
    (hf : s.SameBut bs (f s).2) (hb : Block.pct ∉ bs) (h : serve r c f s = .next t) : s.PortsKept t :=
  serve_kept (hf.quiet hb) h

theorem serve_read_kept {r : Requester} {f : State → Reply × State} (hf : (f s).2 = s)
    (h : serve r c f s = .next t) : s.PortsKept t :=
  serve_kept (hf.symm ▸ .refl s) h

theorem eventWhen_kept {due : Bool} {f : State → State} (hf : due = true → s.PortsKept (f s))
    (h : eventWhen due f s = .next t) : s.PortsKept t :=
  eventWhen_keeps (P := s.PortsKept) (State.Quiet.refl s).kept hf h

theorem execGuardExpiry_kept {i : Nat} (h : execGuardExpiry i s = .next t) : s.PortsKept t := by
  unfold execGuardExpiry at h
  split at h
  · exact next_inj h ▸ (State.Quiet.refl s).kept
  · exact eventWhen_kept (fun _ => (expireCall_quiet s _ _).kept) h

theorem powerOnReset_kept (pins : RolePins) (h : exec (.powerOnReset pins) s = .next t) : s.PortsKept t := fun p => by
  obtain ⟨role, hport⟩ := resetRoles_port (roleOfPins pins.p0) (roleOfPins pins.p1) (roleOfPins pins.p2)
    (roleOfPins pins.p3) p
  have hpct := congrArg State.pct (next_inj h)
  rw [(port_congr hpct p).trans hport]
  exact ⟨fun _ => portInv_reset role, engineLoad_reset role ▸ Nat.zero_le _⟩

/-- Every command but the grant keeps every port, and puts no request of RSE in service. -/
theorem exec_kept (hc : c ≠ .engineGrant) (h : exec c s = .next t) : s.PortsKept t := by
  cases c with
  | powerOnReset pins => exact powerOnReset_kept pins h
  | millisecondTick => exact eventWhen_kept (fun _ => ((tick_sameBut s).quiet (by decide)).kept) h
  | lineIndicationLost p =>
    rw [exec, execLineIndicationLost] at h
    exact eventWhen_kept (fun _ => setPort_kept (lineLost_keeps _ _)) h
  | lineIndicationGood p =>
    rw [exec, execLineIndicationGood] at h
    exact eventWhen_kept (fun _ => setPort_kept (lineGood_keeps _ _)) h
  | linkUp p =>
    rw [exec, execLinkUp] at h
    exact eventWhen_kept (fun hdue => setPort_kept (linkUp_keeps hdue)) h
  | frameArrival p bytes stopFault => exact next_inj h ▸ setPort_kept (receiveFrame_keeps _ _ _)
  | engineGrant => exact absurd rfl hc
  | replySent p => exact next_inj h ▸ setPort_kept (sendReply_keeps _)
  | route r d n inb => exact serve_kept (routeCall_quiet s _ _ _ _) h
  | confirm r i g => exact serve_kept_of_sameBut (confirmCall_sameBut s _ _ _) (by decide) h
  | answer r i g => exact serve_kept_of_sameBut (answerCall_sameBut s _ _ _) (by decide) h
  | release r i g => exact serve_kept (releaseCall_quiet s _ _ _) h
  | reroute r i g => exact serve_kept (rerouteCall_quiet s _ _ _) h
  | queryCall r i g => exact serve_read_kept (queryCall_state s _ _) h
  | guardExpiry i => exact execGuardExpiry_kept h
  | setGuard r n => exact serve_kept_of_sameBut (sameBut_crt s _) (by decide) h
  | adoptPort r f u => exact serve_kept (adoptPort_quiet s _ _) h
  | exchangeRestart r => exact serve_kept_of_sameBut (exchangeRestart_sameBut s) (by decide) h
  | defineGroupDefine r g a => exact serve_kept_of_sameBut (defineGroup_sameBut s _ _) (by decide) h
  | defineGroupRemove r g f => exact serve_kept_of_sameBut (removeGroup_sameBut s _ _) (by decide) h
  | setGroupStateBlock r g => exact serve_kept_of_sameBut (blockGroup_sameBut s _) (by decide) h
  | setGroupStateUnblock r g f => exact serve_kept_of_sameBut (unblockGroup_sameBut s _ _) (by decide) h
  | setReserve r g n => exact serve_kept_of_sameBut (setReserve_sameBut s _ _) (by decide) h
  | circuitMaintOut r c => exact serve_kept_of_sameBut (circuitOut_sameBut s _) (by decide) h
  | circuitMaintReturn r c f => exact serve_kept_of_sameBut (circuitReturn_sameBut s _ _) (by decide) h
  | readGroupSummary r g f => exact serve_read_kept (readGroupSummary_state s _ _) h
  | readGroupCircuit r g a n => exact serve_read_kept (readGroupCircuit_state s _ _ _) h
  | readGroupFreeList r g a n => exact serve_read_kept (readGroupFreeList_state s _ _ _) h
  | writeDest r d f l => exact serve_kept_of_sameBut (writeDest_sameBut s _ _ _) (by decide) h
  | writeRouteSet r n l => exact serve_kept_of_sameBut (writeRouteSet_sameBut s _ _) (by decide) h
  | maskChoice r d i m => exact serve_kept_of_sameBut (maskChoice_sameBut s _ _ _) (by decide) h
  | setFirst r d i => exact serve_kept_of_sameBut (setFirst_sameBut s _ _) (by decide) h
  | readDestDestination r d => exact serve_read_kept (readDest_state s _) h
  | readDestRouteSet r f n => exact serve_read_kept (readRouteSet_state s _ _) h
  | farCongestion r d g n => exact serve_kept_of_sameBut (farCongestion_sameBut s _ _ _) (by decide) h
  | farClear r d => exact serve_kept (farClear_quiet s _) h
  | gapExpiry d => exact next_inj h ▸ (State.Quiet.refl s).kept
  | restrictionEnd d => exact eventWhen_kept (fun _ => (openDest_quiet s _).kept) h
  | periodEnd => exact eventWhen_kept (fun _ => (endPeriod_quiet s).kept) h
  | writeProfile r n p => exact serve_kept_of_sameBut (writeProfile_sameBut s _ _) (by decide) h
  | setPeriod r n => exact serve_kept_of_sameBut (setPeriod_sameBut s _) (by decide) h
  | readCongestionGroup r a n => exact serve_kept_of_sameBut (readCongestion_sameBut s _ _) (by decide) h
  | readCongestionProfile r n => exact serve_read_kept (readProfile_state s _) h
  | readCongestionPeriod r f => exact serve_read_kept (readPeriod_state s _) h
  | writeLocalOffer r c l => exact serve_kept (writeLocalOffer_quiet s _ _) h
  | writeCarrierOffer r c l => exact serve_kept (writeCarrierOffer_quiet s _ _) h
  | confirmAgreement r c n => exact serve_kept (confirmAgreement_quiet s _ _) h
  | withdrawAgreement r c => exact serve_kept (withdrawAgreement_quiet s _) h
  | readAgreement r a n => exact serve_read_kept (readAgreement_state s _ _) h
  | writeTariff r c n v => exact serve_kept_of_sameBut (writeTariff_sameBut s _ _ _) (by decide) h
  | writeBands r l => exact serve_kept_of_sameBut (writeBands_sameBut s _) (by decide) h
  | readTariffClass r k c n => exact serve_read_kept (readTariffClass_state s _ _ _) h
  | readTariffBand r f k => exact serve_read_kept (readTariffBand_state s _ _) h
  | closePeriod r => exact serve_kept (closePeriod_quiet s) h
  | automaticClose =>
    rw [exec, execAutomaticClose] at h
    have hclear := (sameBut_sts s { s.sts with closeDue := false }).quiet (by decide)
    exact eventWhen_kept (fun _ => (hclear.trans (performClose_quiet _)).kept) h
  | setAutoCloseOff r => exact serve_kept_of_sameBut (sameBut_sts s _) (by decide) h
  | setAutoCloseSecond r f n => exact serve_kept_of_sameBut (setAutoCloseSecond_sameBut s _ _) (by decide) h
  | readBank r k a n => exact serve_read_kept (readBank_state s _ _ _) h
  | releaseBank r k => exact serve_kept (releaseBank_quiet s _) h
  | setTime r d n m => exact serve_kept_of_sameBut (setTime_sameBut s _ _ _) (by decide) h
  | readTime r => exact serve_read_kept rfl h
  | takeNotices r => exact serve_kept (setPort_quiet (dropNotices_quiet _ _)) h
  | setNoticeMask r m => exact serve_kept (setNoticeMask_quiet s _ _) h
  | portStatus r n => exact serve_kept (portStatus_quiet s _ _) h
  | identify r => exact serve_read_kept rfl h

/-! ### The grant -/

/-- A waiting head that is granted stands in service (R58, R166). -/
theorem grantHead_inv {q : Port} (hq : q.Inv) (hst : q.stage = .waiting) :
    ({ q with stage := .inService } : Port).Inv := by
  have hne : q.stage ≠ .answered := by simp [hst]
  obtain ⟨h, rest, hf⟩ : ∃ h rest, q.fifo = h :: rest :=
    List.exists_cons_of_ne_nil fun hnil => by simp [hq.stage_noHead.2 hnil] at hst
  have hhead : h ∈ q.fifo.head? := by simp [hf]
  exact (hq.headless hne).passed hf (hq.permitted (.inl hst) h hhead) q.headAt
    (.inl ⟨hq.waiting (.inl hst) h hhead, .inr rfl⟩)

theorem grant_port (p p' : PortId) (s : State) :
    (grant p s).port p' = if p' = p then { s.port p with stage := .inService } else s.port p' :=
  (port_congr rfl p').trans (State.setPort_port s p _ p')

theorem nextWaiting_waits {p : PortId} (h : s.nextWaiting = some p) : (s.port p).stage = .waiting := by
  simpa using List.find?_some h

/-- Everything that a grant can do (R58). -/
theorem execEngineGrant_cases (h : execEngineGrant s = .next t) :
    t = s ∨ ∃ p, s.nextWaiting = some p ∧ s.engineFree = true ∧ t = grant p s := by
  unfold execEngineGrant at h
  split at h
  · rename_i p hp
    rcases (eventWhen_next _ _ s t).1 h with ⟨hfree, rfl⟩ | ⟨-, rfl⟩
    · exact .inr ⟨p, hp, hfree, rfl⟩
    · exact .inl rfl
  · exact .inl (next_inj h)

theorem execEngineGrant_portsInv (hs : s.PortsInv) (h : execEngineGrant s = .next t) : t.PortsInv := by
  rcases execEngineGrant_cases h with rfl | ⟨p, hp, -, rfl⟩
  · exact hs
  · intro p'
    rw [grant_port]
    split
    · exact grantHead_inv (hs p) (nextWaiting_waits hp)
    · exact hs p'

theorem engineLoad_of_not_serves {q : Port} (h : engineServes q = false) : q.engineLoad = 0 := by
  simp only [engineServes, Bool.or_eq_false_iff] at h
  rw [Port.engineLoad, h.1, List.countP_eq_zero.2 (by simpa using h.2)]
  rfl

/-- The free engine that grants a port has that port's head in service alone (R57). -/
theorem execEngineGrant_engineInv (hs : s.EngineInv) (h : execEngineGrant s = .next t) : t.EngineInv := by
  rcases execEngineGrant_cases h with rfl | ⟨p, hp, hfree, rfl⟩
  · exact hs
  · have hzero : ∀ p', (s.port p').engineLoad = 0 := fun p' => engineLoad_of_not_serves ((engineFree_iff s).1 hfree p')
    have hone : ∀ p', ((grant p s).port p').engineLoad ≤ if p' = p then 1 else 0 := fun p' => by
      rw [grant_port]
      split
      · have := hzero p
        simp only [Port.engineLoad] at this ⊢
        split <;> omega
      · exact (hzero p').le
    have h0 := hone .p0
    have h1 := hone .p1
    have h2 := hone .p2
    have h3 := hone .p3
    show ((grant p s).port .p0).engineLoad + ((grant p s).port .p1).engineLoad + ((grant p s).port .p2).engineLoad
      + ((grant p s).port .p3).engineLoad ≤ 1
    cases p <;> simp only [reduceCtorEq, if_true, if_false] at h0 h1 h2 h3 <;> omega

theorem State.PortsKept.engineInv (h : s.PortsKept t) (hs : s.EngineInv) : t.EngineInv := by
  have h0 := (h .p0).load
  have h1 := (h .p1).load
  have h2 := (h .p2).load
  have h3 := (h .p3).load
  simp only [State.EngineInv, State.port] at hs h0 h1 h2 h3 ⊢
  omega

theorem exec_portsInv (hs : s.PortsInv) (h : exec c s = .next t) : t.PortsInv := by
  by_cases hc : c = .engineGrant
  · subst hc
    exact execEngineGrant_portsInv hs h
  · exact fun p => (exec_kept hc h p).inv (hs p)

theorem exec_engineInv (hs : s.EngineInv) (h : exec c s = .next t) : t.EngineInv := by
  by_cases hc : c = .engineGrant
  · subst hc
    exact execEngineGrant_engineInv hs h
  · exact (exec_kept hc h).engineInv hs

/-- Settles O53: every command but the grant keeps every port and puts no request of RSE in service, and the grant puts one in service where there was none. -/
theorem stepsKeepPortsAndEngine : Obligations.StepsKeepPortsAndEngine := by
  intro s t h
  unfold step at h
  split at h
  · exact next_inj h ▸ ⟨id, id⟩
  · rename_i c rest _
    exact ⟨fun hs => exec_portsInv (s := { s with pending := rest }) (fun p => hs p) h,
      fun hs => exec_engineInv (s := { s with pending := rest }) hs h⟩

end Steps

end Sys2Proof.Machine
end

section
/-! SUPPORT. The grant of the engine (R57, R58): which port it grants, and how the rotation brings the others nearer. -/

namespace Sys2Proof.Machine

open Sys2Proof

section Grants

variable {s : State} {p p' : PortId} {pre post : List PortId}

/-- The next waiting port is the first in the rotation with none waiting before it. -/
theorem nextWaiting_eq (hl : portsAfter s.rse.pointer = pre ++ p :: post) (hp : (s.port p).stage = .waiting)
    (hpre : ∀ p' ∈ pre, (s.port p').stage ≠ .waiting) : s.nextWaiting = some p := by
  have hnone : pre.find? (fun p => decide ((s.port p).stage = .waiting)) = none := by simpa using hpre
  rw [State.nextWaiting, hl, List.find?_append, hnone]
  simp [hp]

theorem nextWaiting_eq_none (h : ∀ p, (s.port p).stage ≠ .waiting) : s.nextWaiting = none := by
  simp [State.nextWaiting, h]

theorem execEngineGrant_busy (h : s.engineFree = false) : execEngineGrant s = .next s := by
  unfold execEngineGrant
  split
  · exact if_neg (by simp [h])
  · rfl

theorem execEngineGrant_free (hfree : s.engineFree = true) (hp : s.nextWaiting = some p) :
    execEngineGrant s = .next (grant p s) := by
  simp only [execEngineGrant, hp]
  exact if_pos hfree

/-- The rotation that begins after `p` brings nearer every port that stood behind `p` in the rotation before. -/
theorem portsAfter_idxOf_lt (pointer p p' : PortId)
    (h : (portsAfter pointer).idxOf p < (portsAfter pointer).idxOf p') :
    (portsAfter p).idxOf p' < (portsAfter pointer).idxOf p' := by
  revert h
  cases pointer <;> cases p <;> cases p' <;> decide

/-- A waiting port stands behind the one that is granted. -/
theorem idxOf_granted_lt (hl : portsAfter s.rse.pointer = pre ++ p :: post) (hp : (s.port p).stage = .waiting)
    (hpre : ∀ p' ∈ pre, (s.port p').stage ≠ .waiting) (hne : p' ≠ p) (hp' : (s.port p').stage = .waiting) :
    (portsAfter s.rse.pointer).idxOf p < (portsAfter s.rse.pointer).idxOf p' := by
  rw [hl, List.idxOf_append_of_notMem fun hm => hpre p hm hp, List.idxOf_append_of_notMem fun hm => hpre p' hm hp',
    List.idxOf_cons_self, List.idxOf_cons_ne _ hne.symm]
  omega

end Grants

/-- Settles O11: the grant goes to the first waiting port of the rotation, and the rotation that begins after it brings every port behind it nearer. -/
theorem engineGrantsInRotation : Obligations.EngineGrantsInRotation := by
  refine ⟨fun p pre post s hfree hl hp hpre => ?_, fun s => execEngineGrant_busy, fun s hnone => ?_⟩
  · refine ⟨_, execEngineGrant_free hfree (nextWaiting_eq hl hp hpre), ?_, rfl, rfl, rfl, fun p' hne => ?_,
      grant_sameBut s p, fun p' hne hp' => portsAfter_idxOf_lt _ _ _ (idxOf_granted_lt hl hp hpre hne hp')⟩
    · rw [grant_port, if_pos rfl]
    · rw [grant_port, if_neg hne]
  · show execEngineGrant s = _
    simp only [execEngineGrant, nextWaiting_eq_none hnone]

end Sys2Proof.Machine
end

section
/-! SUPPORT. The requests that write the routing tables: WRITE_DEST and WRITE_ROUTE_SET (R50 to R52), MASK_CHOICE and SET_FIRST (R53, R54). -/

namespace Sys2Proof.Machine

open Sys2Proof

/-! ### Coded choices -/

section Choices

variable {a : ChoiceArg} {c : Choice} {l : List ChoiceArg} {routes : List Choice}

/-- Whether a coded choice's fields lie in their ranges (R47, R50). -/
def ChoiceWritable (a : ChoiceArg) : Prop :=
  a.rank ≤ 7 ∧ a.mask ≤ 1 ∧ ((a.kind = 0 ∧ a.target ≤ 255) ∨ (a.kind = 1 ∧ a.target ≤ 511))

/-- The route choice that a coded choice in range names. -/
def spelledChoice (a : ChoiceArg) : Choice :=
  ⟨if a.kind = 0 then .direct a.target else .chained a.target, a.rank, decide (a.mask = 1)⟩

theorem flagOf_eq_some_iff (n : Nat) (b : Bool) : flagOf n = some b ↔ n ≤ 1 ∧ b = decide (n = 1) := by
  match n with
  | 0 => simp [flagOf, eq_comm]
  | 1 => simp [flagOf, eq_comm]
  | n + 2 => simp [flagOf]

theorem targetOf_eq_some_iff (kind n : Nat) (t : Target) : targetOf kind n = some t ↔
    ((kind = 0 ∧ n ≤ 255) ∨ (kind = 1 ∧ n ≤ 511)) ∧ t = if kind = 0 then .direct n else .chained n := by
  unfold targetOf
  split
  · rw [Option.ite_none_right_eq_some]
    simp [Config.lastGroup, eq_comm (a := t)]
  · rw [Option.ite_none_right_eq_some]
    simp [Config.lastSet, eq_comm (a := t)]
  · simp_all

theorem choiceOf_eq_some_iff : choiceOf a = some c ↔ ChoiceWritable a ∧ c = spelledChoice a := by
  unfold choiceOf
  split
  · rename_i t m ht hm
    obtain ⟨hkind, rfl⟩ := (targetOf_eq_some_iff _ _ _).1 ht
    obtain ⟨hmask, rfl⟩ := (flagOf_eq_some_iff _ _).1 hm
    simp [ChoiceWritable, spelledChoice, hkind, hmask, eq_comm]
  · rename_i hnone
    simp only [reduceCtorEq, false_iff, not_and]
    rintro ⟨-, hmask, hkind⟩
    exact absurd ((flagOf_eq_some_iff _ _).2 ⟨hmask, rfl⟩) (hnone _ _ ((targetOf_eq_some_iff _ _ _).2 ⟨hkind, rfl⟩))

theorem choicesOf_eq_some_iff :
    choicesOf l = some routes ↔ (∀ a ∈ l, ChoiceWritable a) ∧ routes = l.map spelledChoice := by
  induction l generalizing routes with
  | nil => simp [choicesOf, eq_comm]
  | cons a l ih =>
    unfold choicesOf
    split
    · rename_i c cs hc hcs
      obtain ⟨ha, rfl⟩ := choiceOf_eq_some_iff.1 hc
      obtain ⟨hl, rfl⟩ := ih.1 hcs
      exact ⟨fun h => ⟨List.forall_mem_cons.2 ⟨ha, hl⟩, (Option.some.inj h).symm⟩, fun h => by rw [h.2]; rfl⟩
    · rename_i hnone
      simp only [reduceCtorEq, List.forall_mem_cons, false_iff, not_and]
      rintro ⟨ha, hl⟩
      exact absurd (ih.2 ⟨hl, rfl⟩) (hnone _ _ (choiceOf_eq_some_iff.2 ⟨ha, rfl⟩))

end Choices

/-! ### Orders -/

section Orders

variable {routes : List Choice} {i k : Nat}

theorem mem_positionsOfRank : i ∈ positionsOfRank routes k ↔ ∃ c, routes[i]? = some c ∧ c.rank = k := by
  rw [positionsOfRank, List.mem_filter, List.mem_range]
  constructor
  · rintro ⟨-, h⟩
    simpa [Option.any_eq_true] using h
  · rintro ⟨c, hc, hk⟩
    exact ⟨(List.getElem?_eq_some_iff.1 hc).1, by simp [hc, hk]⟩

theorem positionsOfRank_pairwise (routes : List Choice) (k : Nat) : (positionsOfRank routes k).Pairwise (· < ·) :=
  List.pairwise_lt_range.filter _

/-- The orders that a WRITE_DEST writes: route list order for each rotating rank (R51). -/
theorem get_writtenOrders (routes : List Choice) (rotate : Byte) (k : Nat) :
    Table.get [] (writtenOrders routes rotate) k
      = if k < 8 ∧ rotate.getLsbD k = true then positionsOfRank routes k else [] := by
  have hsorted := ((Table.wf_iff _ _ _).1 (writtenOrders_wf routes rotate)).1
  have hentry : ∀ l, (k, l) ∈ writtenOrders routes rotate ↔
      (k < 8 ∧ rotate.getLsbD k = true) ∧ l = positionsOfRank routes k ∧ l ≠ [] := fun l => by
    simp only [writtenOrders, List.mem_filterMap, List.mem_range, Option.ite_none_right_eq_some, Option.some.injEq,
      Prod.mk.injEq, Bool.and_eq_true, Bool.not_eq_true', List.isEmpty_eq_false_iff]
    constructor
    · rintro ⟨r, hr, ⟨hrot, hne⟩, rfl, rfl⟩
      exact ⟨⟨hr, hrot⟩, rfl, hne⟩
    · rintro ⟨⟨hk, hrot⟩, rfl, hne⟩
      exact ⟨k, hk, ⟨hrot, hne⟩, rfl, rfl⟩
  rcases Table.get_mem_or_default [] (writtenOrders routes rotate) k with hget | hget
  · rw [hget]
    split
    · rename_i hk
      by_contra hne
      have hmem := (hentry _).2 ⟨hk, rfl, Ne.symm hne⟩
      exact hne (hget.symm.trans (Table.get_of_mem _ _ hsorted _ _ hmem))
    · rfl
  · obtain ⟨hk, hl, -⟩ := (hentry _).1 hget
    rw [hl, if_pos hk]

/-- An order turned to begin at a position that it holds (R49, R54). -/
theorem turnTo_append {pre post : List Nat} (h : i ∉ pre) : turnTo i (pre ++ i :: post) = i :: post ++ pre := by
  have hpre : ∀ j ∈ pre, decide (j ≠ i) = true := fun j hj => decide_eq_true fun he => h (he ▸ hj)
  rw [turnTo, List.dropWhile_append_of_pos hpre, List.takeWhile_append_of_pos hpre]
  simp

theorem get_reorder (d : Dest) (k : Nat) (f : List Nat → List Nat) (k' : Nat) :
    Table.get [] (reorder d k f).orders k' =
      if k' = k then f (Table.get [] d.orders k) else Table.get [] d.orders k' :=
  Table.get_set _ _ _ _ _

/-- The order of a rotating rank holds each position of the rank (R49). -/
theorem Dest.Inv.mem_order {d : Dest} (h : d.Inv) (hk : rotates d k = true) :
    i ∈ Table.get [] d.orders k ↔ ∃ c, d.routes[i]? = some c ∧ c.rank = k := by
  have hperm := h.orders k
  rw [if_pos hk] at hperm
  rw [hperm.mem_iff, mem_positionsOfRank]

end Orders

/-! ### What each request writes -/

section Writes

variable {s : State} {d i m n : Nat} {rotate : Byte} {l : List ChoiceArg} {entries : List SetEntryArg} {c : Choice}

theorem writeDest_done (hd : d ≤ 4095) (hlen : l.length ≤ 8) (hl : ∀ a ∈ l, ChoiceWritable a) :
    writeDest d rotate l s = (⟨.done, []⟩, s.setDest d { s.dest d with
      routes := l.map spelledChoice, rotate := rotate, orders := writtenOrders (l.map spelledChoice) rotate }) := by
  have hok : ¬ (Config.lastDest < d ∨ Config.maxChoices < l.length) := not_or.2 ⟨Nat.not_lt.2 hd, Nat.not_lt.2 hlen⟩
  simp only [writeDest, if_neg hok, choicesOf_eq_some_iff.2 ⟨hl, rfl⟩, Reply.plain]

theorem writeDest_badValue (h : ¬ (d ≤ 4095 ∧ l.length ≤ 8 ∧ ∀ a ∈ l, ChoiceWritable a)) :
    writeDest d rotate l s = (⟨.badValue, []⟩, s) := by
  unfold writeDest
  split
  · rfl
  rename_i hok
  obtain ⟨hd, hlen⟩ := not_or.1 hok
  split
  · rfl
  · rename_i routes hr
    exact absurd ⟨Nat.not_lt.1 hd, Nat.not_lt.1 hlen, (choicesOf_eq_some_iff.1 hr).1⟩ h

/-- Whether the entries of a WRITE_ROUTE_SET may be written (R52). -/
def SetWritable (entries : List SetEntryArg) : Prop :=
  1 ≤ entries.length ∧ entries.length ≤ 8 ∧ (∀ e ∈ entries, e.kind = 0 ∧ e.number ≤ 255)
    ∧ (entries.map (fun e => e.number)).Nodup

theorem setEntriesValid_iff : setEntriesValid entries = true ↔ SetWritable entries := by
  simp only [setEntriesValid, SetWritable, Bool.and_eq_true, decide_eq_true_eq, List.all_eq_true, and_assoc]
  rfl

theorem writeRouteSet_done (hn : n ≤ 511) (h : SetWritable entries) : writeRouteSet n entries s = (⟨.done, []⟩,
    { s with rse := { s.rse with sets := Table.set [] s.rse.sets n (entries.map (·.number)) } }) := by
  have hok : ¬ (Config.lastSet < n ∨ (!setEntriesValid entries) = true) :=
    not_or.2 ⟨Nat.not_lt.2 hn, by simp [setEntriesValid_iff.2 h]⟩
  simp only [writeRouteSet, if_neg hok, Reply.plain]

theorem writeRouteSet_badValue (h : ¬ (n ≤ 511 ∧ SetWritable entries)) :
    writeRouteSet n entries s = (⟨.badValue, []⟩, s) := by
  refine if_pos ?_
  rw [Bool.not_eq_true', Bool.eq_false_iff, ne_eq, setEntriesValid_iff]
  by_contra hok
  exact h ⟨Nat.not_lt.1 (not_or.1 hok).1, not_not.1 (not_or.1 hok).2⟩

theorem maskChoice_done (hd : d ≤ 4095) (hi : i < (s.dest d).routes.length) (hm : m ≤ 1) :
    maskChoice d i m s = (⟨.done, []⟩, s.setDest d { s.dest d with
      routes := maskRoutes (s.dest d).routes i (decide (m = 1)) }) := by
  have hok : ¬ (Config.lastDest < d ∨ (s.dest d).routes.length ≤ i) := not_or.2 ⟨Nat.not_lt.2 hd, Nat.not_le.2 hi⟩
  simp only [maskChoice, if_neg hok, (flagOf_eq_some_iff _ _).2 ⟨hm, rfl⟩, Reply.plain]

theorem maskChoice_badValue (h : 4095 < d ∨ (s.dest d).routes.length ≤ i ∨ 1 < m) :
    maskChoice d i m s = (⟨.badValue, []⟩, s) := by
  unfold maskChoice
  split
  · rfl
  · rename_i hok
    obtain ⟨hd, hi⟩ := not_or.1 hok
    rw [flagOf_eq_none ((h.resolve_left hd).resolve_left hi)]
    rfl

theorem getElem?_maskRoutes (routes : List Choice) (i j : Nat) (b : Bool) :
    (maskRoutes routes i b)[j]? = routes[j]?.map fun c => if j = i then { c with masked := b } else c := by
  rw [maskRoutes, List.getElem?_modify]
  by_cases h : i = j
  · simp [h]
  · simp [h, Ne.symm h]

theorem setFirst_done (hd : d ≤ 4095) (hc : (s.dest d).routes[i]? = some c) (hrot : rotates (s.dest d) c.rank = true) :
    setFirst d i s = (⟨.done, []⟩, s.setDest d (reorder (s.dest d) c.rank (turnTo i))) := by
  have hd' : ¬ Config.lastDest < d := Nat.not_lt.2 hd
  simp only [setFirst, if_neg hd', hc, if_pos hrot, Reply.plain]

theorem setFirst_wrongState (hd : d ≤ 4095) (hc : (s.dest d).routes[i]? = some c)
    (hrot : rotates (s.dest d) c.rank = false) : setFirst d i s = (⟨.wrongState, []⟩, s) := by
  have hd' : ¬ Config.lastDest < d := Nat.not_lt.2 hd
  simp [setFirst, if_neg hd', hc, hrot, Reply.plain]

theorem setFirst_badValue (h : 4095 < d ∨ (s.dest d).routes.length ≤ i) :
    setFirst d i s = (⟨.badValue, []⟩, s) := by
  unfold setFirst
  split
  · rfl
  · rename_i hd
    rw [List.getElem?_eq_none (h.resolve_left hd)]
    rfl

/-- One destination written, and the reply delivered: no other destination and no other block but PCT is touched. -/
theorem setDest_deliver_frame (s : State) (d : Nat) (v : Dest) (r : Requester) (c : Instr) (a : Reply) :
    (∀ d', d' ≠ d → ((s.setDest d v).deliver r c a).dest d' = s.dest d')
      ∧ ((s.setDest d v).deliver r c a).rse
        = { s.rse with dests := ((s.setDest d v).deliver r c a).rse.dests }
      ∧ s.SameBut [.pct, .rse] ((s.setDest d v).deliver r c a)
      ∧ ((s.setDest d v).deliver r c a).pct = (s.deliver r c a).pct :=
  ⟨fun d' hne => by simp [hne], by simp [State.setDest],
    ((setDest_sameBut s d v).mono (by simp)).deliver (by simp) r c a, deliver_pct_congr (by rfl) r c a⟩

theorem setDest_deliver_dest (s : State) (d : Nat) (v : Dest) (r : Requester) (c : Instr) (a : Reply) :
    ((s.setDest d v).deliver r c a).dest d = v := by simp

end Writes

/-- Settles O28: the coded choices are read one by one, and the whole entry is written or none of it. -/
theorem routeTablesAreWritten : Obligations.RouteTablesAreWritten := by
  refine ⟨fun r d rotate choices s h => ⟨fun hvalid => ?_, fun hbad => serve_eq h _ (writeDest_badValue hbad)⟩,
    fun r n entries s h => ⟨fun hvalid => ?_, fun hbad => serve_eq h _ (writeRouteSet_badValue hbad)⟩⟩
  · obtain ⟨hd, hlen, hl⟩ := hvalid
    refine ⟨_, _, serve_eq h _ (writeDest_done hd hlen hl), rfl, ?_, ?_, fun k => ?_, ?_,
      setDest_deliver_frame s d _ r _ _⟩
    all_goals rw [setDest_deliver_dest]
    · rfl
    · exact get_writtenOrders _ rotate k
  · obtain ⟨hn, hset⟩ := hvalid
    refine ⟨_, serve_eq h _ (writeRouteSet_done hn hset), fun n' => ?_, by simp,
      ((sameBut_rse s _).mono (by simp)).deliver (by simp) r _ _, deliver_pct_congr (by rfl) r _ _⟩
    rw [State.deliver_routeSet]
    exact Table.get_set _ _ _ _ _

/-- Settles O29: the mask of one choice is written, and an order that holds the named position once is split there and turned. -/
theorem choicesAreMaskedAndTurned : Obligations.ChoicesAreMaskedAndTurned := by
  refine ⟨fun r d i m s h => ⟨fun hd hi hm => ?_, fun hbad => serve_eq h _ (maskChoice_badValue hbad)⟩,
    fun r d i s h => ⟨fun c hd hc hrot hinv => ?_, fun c hd hc hrot => serve_eq h _ (setFirst_wrongState hd hc hrot),
      fun hbad => serve_eq h _ (setFirst_badValue hbad)⟩⟩
  · refine ⟨_, serve_eq h _ (maskChoice_done hd hi hm), ?_, fun j => ?_, ?_, ?_, ?_, setDest_deliver_frame s d _ r _ _⟩
    all_goals rw [setDest_deliver_dest]
    · exact List.length_modify _ _ _
    · exact getElem?_maskRoutes _ i j _
  · have hmem := ((hinv.dests d).mem_order hrot).2 ⟨c, hc, rfl⟩
    obtain ⟨pre, post, hsplit, hpre⟩ := List.eq_append_cons_of_mem hmem
    refine ⟨_, pre, post, serve_eq h _ (setFirst_done hd hc hrot), hsplit, fun k => ?_, ?_, ?_, ?_,
      setDest_deliver_frame s d _ r _ _⟩
    all_goals rw [setDest_deliver_dest]
    · rw [get_reorder, hsplit, turnTo_append hpre]
    all_goals rfl

end Sys2Proof.Machine
end

section
/-! SUPPORT. The walk (R60 to R68): the order in which it meets its candidates, what it examines, and what it counts. -/

namespace Sys2Proof.Machine

open Sys2Proof

/-! ### Admission (R63, R64) -/

section Admission

variable {cls : CallClass} {rank level f reserve count : Nat}

theorem trafficOf_emergency_iff : trafficOf cls rank = .emergency ↔ cls = .emergency := by
  cases cls <;> simp [trafficOf] <;> split <;> simp

theorem trafficOf_firstChoice_iff : trafficOf cls rank = .firstChoice ↔
    cls = .priority ∨ ((cls = .ordinary ∨ cls = .low) ∧ rank = 0) := by
  cases cls <;> simp [trafficOf]

theorem trafficOf_overflow_iff : trafficOf cls rank = .overflow ↔ (cls = .ordinary ∨ cls = .low) ∧ rank ≠ 0 := by
  cases cls <;> simp [trafficOf]

theorem admits_firstChoice_iff : admits .firstChoice level f reserve count = true ↔
    (level ≤ 2 ∧ 1 ≤ f) ∨ (3 ≤ level ∧ reserve < f) := by
  unfold admits
  simp only
  split <;> simp only [decide_eq_true_eq] <;> omega

theorem admits_overflow_iff : admits .overflow level f reserve count = true ↔
    (level ≤ 1 ∧ reserve < f) ∨ (level = 2 ∧ min (2 * reserve) count < f) := by
  unfold admits effectiveReserve
  simp only
  split
  · rw [decide_eq_true_eq]
    split <;> omega
  · simp only [Bool.false_eq_true, false_iff]
    omega

/-- No kind of traffic is admitted without a free circuit. -/
theorem pos_of_admits {traffic : Traffic} (h : admits traffic level f reserve count = true) : 1 ≤ f := by
  cases traffic with
  | emergency => simpa [admits] using h
  | firstChoice => rcases admits_firstChoice_iff.1 h with ⟨-, hf⟩ | ⟨-, hf⟩ <;> omega
  | overflow => rcases admits_overflow_iff.1 h with ⟨-, hf⟩ | ⟨-, hf⟩ <;> omega

end Admission

/-- Settles O32: the table, read by the kind of traffic that the class and the rank make. -/
theorem admissionTableHolds : Obligations.AdmissionTableHolds := by
  intro cls rank level f reserve count hlevel
  cases htraffic : trafficOf cls rank with
  | emergency =>
    obtain rfl := trafficOf_emergency_iff.1 htraffic
    simp [admits]
  | firstChoice =>
    have hcls := trafficOf_firstChoice_iff.1 htraffic
    have hnot : ¬ ((cls = .ordinary ∨ cls = .low) ∧ rank ≠ 0) := by rcases hcls with rfl | ⟨-, hr⟩ <;> simp [*]
    rw [admits_firstChoice_iff]
    refine ⟨⟨fun h => .inr (.inl ⟨hcls, by omega⟩), ?_⟩, fun _ _ hc hr => absurd ⟨hc, hr⟩ hnot⟩
    rintro (⟨rfl, -⟩ | ⟨-, h⟩ | ⟨hc, hr, -⟩)
    · simp at hcls
    · omega
    · exact absurd ⟨hc, hr⟩ hnot
  | overflow =>
    have hcls := trafficOf_overflow_iff.1 htraffic
    refine ⟨admits_overflow_iff.trans ⟨fun h => .inr (.inr ⟨hcls.1, hcls.2, h⟩), ?_⟩, fun hfull hf _ _ => ?_⟩
    · rintro (⟨rfl, -⟩ | ⟨rfl | ⟨-, hr⟩, -⟩ | ⟨-, -, h⟩)
      · simp at hcls
      · simp at hcls
      · exact absurd hr hcls.2
      · exact h
    · rw [Bool.eq_false_iff, ne_eq, admits_overflow_iff]
      omega

/-! ### Skipping (R61) and examination (R62) -/

section Examination

variable {s : State} {cls : CallClass} {inbound : Option Nat} {c : Candidate} {x y : Group} {examined : List Nat}

/-- The walk examines a usable group that it has not examined yet (R61). -/
theorem eligible_eq_some_iff :
    eligible s inbound examined c = some x ↔ Usable s inbound c x ∧ c.group ∉ examined := by
  unfold eligible
  split
  · rename_i hg
    simp [Usable, hg]
  · rename_i r hg
    rw [Option.ite_none_right_eq_some, Option.some.injEq]
    constructor
    · rintro ⟨⟨hm, hst, hdir, hin, hcar, hex⟩, rfl⟩
      exact ⟨⟨hg, hm, hst, hdir, hin, hcar⟩, hex⟩
    · rintro ⟨⟨hg', hm, hst, hdir, hin, hcar⟩, hex⟩
      obtain rfl := Option.some.inj (hg.symm.trans hg')
      exact ⟨⟨hm, hst, hdir, hin, hcar, hex⟩, rfl⟩

/-- The walk skips a candidate that is not usable, or whose group it has examined (R61). -/
theorem eligible_eq_none_iff :
    eligible s inbound examined c = none ↔ (∀ x, ¬ Usable s inbound c x) ∨ c.group ∈ examined := by
  rw [Option.eq_none_iff_forall_ne_some]
  simp only [ne_eq, eligible_eq_some_iff, not_and, not_not]
  by_cases hm : c.group ∈ examined <;> simp [hm]

/-- Two usable candidates of one group have its one record. -/
theorem Usable.eq_of_group {c' : Candidate} (hx : Usable s inbound c x) (hy : Usable s inbound c' y)
    (hg : c'.group = c.group) : y = x :=
  Option.some.inj (hy.1.symm.trans (hg ▸ hx.1))

/-- No call is admitted to a group without a free circuit (R64). -/
theorem Admits.freeList_ne_nil (h : Admits s cls c x) : x.freeList ≠ [] := by
  have hpos := pos_of_admits h
  exact fun hnil => by simp [hnil] at hpos

/-- The examination of an admitted call gives the head of the free list (R17, R62). -/
theorem admittedHead_eq_some_iff {head : Nat} :
    admittedHead s cls c x = some head ↔ Admits s cls c x ∧ x.freeList.head? = some head :=
  Option.ite_none_right_eq_some

theorem admittedHead_eq_none_iff : admittedHead s cls c x = none ↔ ¬ Admits s cls c x := by
  constructor
  · intro h ha
    obtain ⟨head, rest, hl⟩ := List.exists_cons_of_ne_nil ha.freeList_ne_nil
    have := admittedHead_eq_some_iff.2 ⟨ha, by rw [hl]; rfl⟩
    rw [h] at this
    cases this
  · exact fun h => if_neg h

end Examination

/-! ### Walking on over refusals -/

/-- What a walk has met, and what it has counted, once it has gone over candidates none of which it was given (R61, R62, R67). -/
def walkOver (s : State) (inbound : Option Nat) :
    List Candidate → Tally → Table CongestionRecord → Tally × Table CongestionRecord
  | [], t, records => (t, records)
  | c :: rest, t, records =>
    match eligible s inbound t.examined c with
    | none => walkOver s inbound rest t records
    | some r =>
      walkOver s inbound rest ⟨t.examined ++ [c.group], t.congestion || !r.freeList.isEmpty⟩
        (countOn records c.group true)

/-- Whether some candidate of a list yields group `g` and is usable. -/
def GroupUsable (s : State) (inbound : Option Nat) (l : List Candidate) (g : Nat) : Prop :=
  ∃ c x, c ∈ l ∧ c.group = g ∧ Usable s inbound c x

/-- A congestion record after one examination that refused (R85). -/
def CongestionRecord.refused (r : CongestionRecord) : CongestionRecord :=
  { r with attempts := min (r.attempts + 1) 4294967295, refusals := min (r.refusals + 1) 4294967295 }

section Walks

variable {s : State} {cls : CallClass} {inbound : Option Nat} {c : Candidate} {x : Group}
  {l rest : List Candidate} {t : Tally} {records records' : Table CongestionRecord} {g : Nat}

theorem walkOver_skip (h : eligible s inbound t.examined c = none) :
    walkOver s inbound (c :: rest) t records = walkOver s inbound rest t records := by
  simp only [walkOver, h]

theorem walkOver_examine (h : eligible s inbound t.examined c = some x) :
    walkOver s inbound (c :: rest) t records =
      walkOver s inbound rest ⟨t.examined ++ [c.group], t.congestion || !x.freeList.isEmpty⟩
        (countOn records c.group true) := by
  simp only [walkOver, h]

theorem groupUsable_cons :
    GroupUsable s inbound (c :: l) g ↔ (c.group = g ∧ ∃ x, Usable s inbound c x) ∨ GroupUsable s inbound l g := by
  simp only [GroupUsable, List.mem_cons]
  constructor
  · rintro ⟨c', x, rfl | hc, hg, hx⟩
    · exact .inl ⟨hg, x, hx⟩
    · exact .inr ⟨c', x, hc, hg, hx⟩
  · rintro (⟨hg, x, hx⟩ | ⟨c', x, hc, hg, hx⟩)
    · exact ⟨c, x, .inl rfl, hg, hx⟩
    · exact ⟨c', x, .inr hc, hg, hx⟩

theorem countUp_eq (n : Nat) : countUp n = min (n + 1) 4294967295 := by
  unfold countUp Config.maxCount32
  split <;> omega

theorem get_countOn (records : Table CongestionRecord) (g : Nat) (refused : Bool) (g' : Nat) :
    Table.get CongestionRecord.zero (countOn records g refused) g' =
      if g' = g then countExamination refused (Table.get CongestionRecord.zero records g)
      else Table.get CongestionRecord.zero records g' :=
  Table.get_set _ _ _ _ _

theorem countExamination_refused (r : CongestionRecord) : countExamination true r = r.refused := by
  simp [countExamination, CongestionRecord.refused, countUp_eq]

/-- The groups examined are those that usable candidates name (R61). -/
theorem mem_walkOver_examined : g ∈ (walkOver s inbound l t records).1.examined ↔
    g ∈ t.examined ∨ GroupUsable s inbound l g := by
  induction l generalizing t records with
  | nil => simp [walkOver, GroupUsable]
  | cons c rest ih =>
    rw [groupUsable_cons]
    cases he : eligible s inbound t.examined c with
    | none =>
      rw [walkOver_skip he, ih]
      rcases eligible_eq_none_iff.1 he with hnot | hmem
      · simp [hnot]
      · grind
    | some x =>
      obtain ⟨hx, -⟩ := eligible_eq_some_iff.1 he
      rw [walkOver_examine he, ih]
      have : ∃ x, Usable s inbound c x := ⟨x, hx⟩
      simp [this, eq_comm, or_assoc]

/-- A refusal is a congestion refusal where a usable group had a free circuit (R67, R68). -/
theorem walkOver_congestion : (walkOver s inbound l t records).1.congestion = true ↔
    t.congestion = true ∨ ∃ c x, c ∈ l ∧ c.group ∉ t.examined ∧ Usable s inbound c x ∧ x.freeList ≠ [] := by
  induction l generalizing t records with
  | nil => simp [walkOver]
  | cons c rest ih =>
    cases he : eligible s inbound t.examined c with
    | none =>
      rw [walkOver_skip he, ih]
      have hskip := eligible_eq_none_iff.1 he
      grind
    | some x =>
      obtain ⟨hx, hnew⟩ := eligible_eq_some_iff.1 he
      rw [walkOver_examine he, ih]
      simp only [Bool.or_eq_true, Bool.not_eq_true', List.isEmpty_eq_false_iff, List.mem_append, List.mem_singleton,
        not_or, or_assoc]
      refine or_congr_right ⟨?_, ?_⟩
      · rintro (hfree | ⟨c', y, hc', ⟨hold, -⟩, hy, hfree⟩)
        · exact ⟨c, x, List.mem_cons_self, hnew, hx, hfree⟩
        · exact ⟨c', y, List.mem_cons_of_mem c hc', hold, hy, hfree⟩
      · rintro ⟨c', y, hc', hold, hy, hfree⟩
        by_cases hg : c'.group = c.group
        · exact .inl (hx.eq_of_group hy hg ▸ hfree)
        · exact .inr ⟨c', y, (List.mem_cons.1 hc').resolve_left fun he => hg (he ▸ rfl), ⟨hold, hg⟩, hy, hfree⟩

/-- Nothing is counted on a group that was examined before, or that no usable candidate names (R67, R85). -/
theorem get_walkOver_of_not_met (h : g ∈ t.examined ∨ ¬ GroupUsable s inbound l g) :
    Table.get CongestionRecord.zero (walkOver s inbound l t records).2 g
      = Table.get CongestionRecord.zero records g := by
  induction l generalizing t records with
  | nil => rfl
  | cons c rest ih =>
    rw [groupUsable_cons, not_or] at h
    cases he : eligible s inbound t.examined c with
    | none => rw [walkOver_skip he, ih (h.imp_right And.right)]
    | some x =>
      obtain ⟨hx, hnew⟩ := eligible_eq_some_iff.1 he
      have hne : g ≠ c.group := by
        rintro rfl
        exact h.elim hnew fun hnot => hnot.1 ⟨rfl, x, hx⟩
      rw [walkOver_examine he, ih (h.imp (List.mem_append_left _) And.right), get_countOn, if_neg hne]

/-- One attempt and one refusal are counted on each group newly examined (R67, R85). -/
theorem get_walkOver_of_met (hnew : g ∉ t.examined) (h : GroupUsable s inbound l g) :
    Table.get CongestionRecord.zero (walkOver s inbound l t records).2 g
      = (Table.get CongestionRecord.zero records g).refused := by
  induction l generalizing t records with
  | nil =>
    obtain ⟨_, _, hmem, -⟩ := h
    cases hmem
  | cons c rest ih =>
    cases he : eligible s inbound t.examined c with
    | none =>
      have hrest : GroupUsable s inbound rest g := (groupUsable_cons.1 h).resolve_left fun ⟨hg, x, hx⟩ =>
        (eligible_eq_none_iff.1 he).elim (fun hnot => hnot x hx) fun hmem => hnew (hg ▸ hmem)
      rw [walkOver_skip he, ih hnew hrest]
    | some x =>
      rw [walkOver_examine he]
      by_cases hg : g = c.group
      · rw [get_walkOver_of_not_met (.inl (by simp [hg])), get_countOn, if_pos hg, countExamination_refused, hg]
      · have hrest := (groupUsable_cons.1 h).resolve_left fun hc => hg hc.1.symm
        rw [ih (by simp [hnew, hg]) hrest, get_countOn, if_neg hg]

/-- A walk that fails has gone over every candidate (R68). -/
theorem walkFrom_error {e : Reason} (h : walkFrom s cls inbound l t records = (.error e, records')) :
    e = failedReason (walkOver s inbound l t records).1 ∧ records' = (walkOver s inbound l t records).2 := by
  induction l generalizing t records with
  | nil =>
    obtain ⟨he, rfl⟩ := Prod.mk.inj h
    exact ⟨(Except.error.inj he).symm, rfl⟩
  | cons c rest ih =>
    rw [walkFrom] at h
    split at h
    · rename_i he
      rw [walkOver_skip he]
      exact ih h
    · rename_i x he
      rw [walkOver_examine he]
      split at h
      · cases h
      · exact ih h

/-- A walk that admits has gone over the candidates before the winner's, each of which it skipped or was refused by (R61, R62, R65). -/
theorem walkFrom_ok {w : Winner} (h : walkFrom s cls inbound l t records = (.ok w, records')) :
    ∃ pre c post x, l = pre ++ c :: post
      ∧ eligible s inbound (walkOver s inbound pre t records).1.examined c = some x
      ∧ admittedHead s cls c x = some w.circuit ∧ w = ⟨c.position, c.rank, c.group, w.circuit⟩
      ∧ records' = countOn (walkOver s inbound pre t records).2 c.group false
      ∧ ∀ pre₁ c' pre₂ y, pre = pre₁ ++ c' :: pre₂ →
        eligible s inbound (walkOver s inbound pre₁ t records).1.examined c' = some y →
        admittedHead s cls c' y = none := by
  induction l generalizing t records with
  | nil => cases h
  | cons c rest ih =>
    rw [walkFrom] at h
    split at h
    · rename_i he
      obtain ⟨pre, c', post, x, rfl, hx, hhead, hw, hrec, hpre⟩ := ih h
      refine ⟨c :: pre, c', post, x, rfl, by rwa [walkOver_skip he], hhead, hw, by rwa [walkOver_skip he],
        fun pre₁ d pre₂ y hsplit hy => ?_⟩
      rcases List.cons_eq_append_iff.1 hsplit with ⟨rfl, hd⟩ | ⟨pre₁', rfl, hsplit'⟩
      · obtain ⟨rfl, -⟩ := List.cons.inj hd
        rw [walkOver, he] at hy
        cases hy
      · exact hpre pre₁' d pre₂ y hsplit' (by rwa [walkOver_skip he] at hy)
    · rename_i x he
      split at h
      · rename_i head hhead
        obtain ⟨hw, rfl⟩ := Prod.mk.inj h
        obtain rfl := Except.ok.inj hw
        exact ⟨[], c, rest, x, rfl, he, hhead, rfl, rfl, fun pre₁ d pre₂ y hsplit => by simp at hsplit⟩
      · rename_i hhead
        obtain ⟨pre, c', post, x', rfl, hx, hhead', hw, hrec, hpre⟩ := ih h
        refine ⟨c :: pre, c', post, x', rfl, by rwa [walkOver_examine he], hhead', hw, by rwa [walkOver_examine he],
          fun pre₁ d pre₂ y hsplit hy => ?_⟩
        rcases List.cons_eq_append_iff.1 hsplit with ⟨rfl, hd⟩ | ⟨pre₁', rfl, hsplit'⟩
        · obtain ⟨rfl, -⟩ := List.cons.inj hd
          rw [walkOver, he] at hy
          exact Option.some.inj hy ▸ hhead
        · exact hpre pre₁' d pre₂ y hsplit' (by rwa [walkOver_examine he] at hy)

end Walks

/-! ### The reason of a walk that fails (R68) -/

section Failures

variable {s : State} {inbound : Option Nat} {l : List Candidate} {records : Table CongestionRecord}

/-- What a whole walk has examined, from its beginning: the groups that usable candidates name. -/
theorem examined_eq_nil_iff : (walkOver s inbound l ⟨[], false⟩ records).1.examined = [] ↔
    ∀ c x, c ∈ l → ¬ Usable s inbound c x := by
  rw [List.eq_nil_iff_forall_not_mem]
  simp only [mem_walkOver_examined, List.not_mem_nil, false_or, GroupUsable]
  exact ⟨fun h c x hc hx => h _ ⟨c, x, hc, rfl, hx⟩, fun h g ⟨c, x, hc, _, hx⟩ => h c x hc hx⟩

theorem failedReason_congested_iff (t : Tally) : failedReason t = .congested ↔ t.congestion = true := by
  unfold failedReason
  split
  · simp [*]
  · split <;> simp [*]

theorem failedReason_noEligible_iff (t : Tally) :
    failedReason t = .noEligible ↔ t.congestion = false ∧ t.examined = [] := by
  unfold failedReason
  split
  · simp [*]
  · split <;> simp_all

theorem failedReason_allBusy_iff (t : Tally) :
    failedReason t = .allBusy ↔ t.congestion = false ∧ t.examined ≠ [] := by
  unfold failedReason
  split
  · simp [*]
  · split <;> simp_all

theorem congestion_iff : (walkOver s inbound l ⟨[], false⟩ records).1.congestion = true ↔
    ∃ c x, c ∈ l ∧ Usable s inbound c x ∧ x.freeList ≠ [] := by
  simp [walkOver_congestion]

theorem congestion_eq_false_iff : (walkOver s inbound l ⟨[], false⟩ records).1.congestion = false ↔
    ∀ c x, c ∈ l → Usable s inbound c x → x.freeList = [] := by
  rw [Bool.eq_false_iff, ne_eq, congestion_iff]
  simp only [not_exists, not_and, ne_eq, not_not]

end Failures

/-- Settles O31: a walk that fails has gone over every candidate, and its tally says which groups it met and whether one had a free circuit. -/
theorem failedWalkCountsAndGivesItsReason : Obligations.FailedWalkCountsAndGivesItsReason := by
  intro s cls inbound cands e records records' h
  obtain ⟨rfl, rfl⟩ := walkFrom_error h
  refine ⟨(failedReason_congested_iff _).trans congestion_iff, (failedReason_allBusy_iff _).trans ?_,
    (failedReason_noEligible_iff _).trans ?_, fun g => ⟨fun hg => ?_, fun hg => ?_⟩⟩
  · rw [congestion_eq_false_iff, ne_eq, examined_eq_nil_iff, and_comm]
    simp
  · rw [congestion_eq_false_iff, examined_eq_nil_iff]
    exact ⟨And.right, fun hnone => ⟨fun c x hc hx => absurd hx (hnone c x hc), hnone⟩⟩
  · exact get_walkOver_of_met List.not_mem_nil hg
  · exact get_walkOver_of_not_met (.inr fun ⟨c, x, hc, hcg, hx⟩ => hg c x hc hcg hx)

/-! ### The order of the candidates (R60) -/

section Order

variable {s : State} {d : Dest} {i k : Nat} {e : Candidate}

/-- The walk visits each position of a rank (R49, R60). -/
theorem Dest.Inv.mem_rankOrder (h : d.Inv) : i ∈ rankOrder d k ↔ ∃ c, d.routes[i]? = some c ∧ c.rank = k := by
  unfold rankOrder
  split
  · exact h.mem_order (by assumption)
  · exact mem_positionsOfRank

theorem mem_candidatesAt : e ∈ candidatesAt s d i ↔ e.position = i ∧ ∃ c, d.routes[i]? = some c ∧ e.rank = c.rank
    ∧ e.masked = c.masked ∧ e.group ∈ yieldsOf s c.target := by
  obtain ⟨position, rank, masked, group⟩ := e
  unfold candidatesAt
  split
  · simp [*]
  · rename_i c hc
    simp only [List.mem_map, Candidate.mk.injEq, hc, Option.some.injEq, exists_eq_left']
    constructor
    · rintro ⟨g, hg, rfl, rfl, rfl, rfl⟩
      exact ⟨rfl, rfl, rfl, hg⟩
    · rintro ⟨rfl, rfl, rfl, hg⟩
      exact ⟨group, hg, rfl, rfl, rfl, rfl⟩

theorem mem_yieldsOf {g : Nat} {x : Target} :
    g ∈ yieldsOf s x ↔ x = .direct g ∨ ∃ m, x = .chained m ∧ g ∈ s.routeSet m := by
  cases x with
  | direct g' => simp [yieldsOf, eq_comm]
  | chained m => simp [yieldsOf]

theorem Dest.Inv.mem_candidates (h : d.Inv) : e ∈ candidates s d ↔ ∃ c, d.routes[e.position]? = some c
    ∧ e.rank = c.rank ∧ e.masked = c.masked ∧ e.group ∈ yieldsOf s c.target := by
  simp only [candidates, List.mem_flatMap, List.mem_range, h.mem_rankOrder, mem_candidatesAt]
  constructor
  · rintro ⟨k, -, i, -, rfl, he⟩
    exact he
  · rintro ⟨c, hc, he⟩
    have hrank := (h.choices c (List.mem_of_getElem? hc)).1
    exact ⟨c.rank, by omega, e.position, ⟨c, hc, rfl⟩, rfl, c, hc, he⟩

theorem pairwise_idxOf_lt {l : List Nat} (h : l.Nodup) : l.Pairwise fun a b => l.idxOf a < l.idxOf b := by
  rw [List.pairwise_iff_getElem]
  intro a b ha hb hlt
  rwa [h.idxOf_getElem, h.idxOf_getElem]

/-- The order of the positions within one rank (R49, R60). -/
theorem Dest.Inv.rankOrder_pairwise (h : d.Inv) (k : Nat) : (rankOrder d k).Pairwise fun a b =>
    if rotates d k = true then (Table.get [] d.orders k).idxOf a < (Table.get [] d.orders k).idxOf b else a < b := by
  have hsorted := positionsOfRank_pairwise d.routes k
  have hperm := h.orders k
  unfold rankOrder
  split <;> rename_i hk
  · rw [if_pos hk] at hperm
    exact pairwise_idxOf_lt (hperm.nodup_iff.2 (hsorted.imp Nat.ne_of_lt))
  · exact hsorted

/-- The order of the groups that one choice yields (R60). -/
theorem candidatesAt_pairwise (hs : ∀ n, (s.routeSet n).Nodup) (i : Nat) :
    (candidatesAt s d i).Pairwise (YieldedBefore s d) := by
  unfold candidatesAt
  split
  · exact .nil
  · rename_i c hc
    cases ht : c.target with
    | direct g => exact List.pairwise_singleton _ _
    | chained n =>
      refine List.pairwise_map.2 ((pairwise_idxOf_lt (hs n)).imp fun hlt => ?_)
      exact .inr ⟨rfl, .inr ⟨rfl, c, n, hc, ht, hlt⟩⟩

theorem Dest.Inv.candidates_pairwise (h : d.Inv) (hs : ∀ n, (s.routeSet n).Nodup) :
    (candidates s d).Pairwise (YieldedBefore s d) := by
  have hrank : ∀ k i e, i ∈ rankOrder d k → e ∈ candidatesAt s d i → e.position = i ∧ e.rank = k := by
    intro k i e hi he
    obtain ⟨c, hc, rfl⟩ := h.mem_rankOrder.1 hi
    obtain ⟨hpos, c', hc', hr, -⟩ := mem_candidatesAt.1 he
    obtain rfl := Option.some.inj (hc.symm.trans hc')
    exact ⟨hpos, hr⟩
  refine List.pairwise_flatMap.2 ⟨fun k _ => List.pairwise_flatMap.2 ⟨fun i _ => candidatesAt_pairwise hs i, ?_⟩, ?_⟩
  · refine (h.rankOrder_pairwise k).imp_of_mem fun hi hj hlt a ha b hb => ?_
    obtain ⟨rfl, rfl⟩ := hrank _ _ _ hi ha
    obtain ⟨rfl, hbrank⟩ := hrank _ _ _ hj hb
    exact .inr ⟨hbrank.symm, .inl hlt⟩
  · refine List.pairwise_lt_range.imp fun hlt a ha b hb => ?_
    obtain ⟨i, hi, ha⟩ := List.mem_flatMap.1 ha
    obtain ⟨j, hj, hb⟩ := List.mem_flatMap.1 hb
    exact .inl ((hrank _ _ _ hi ha).2.trans_lt (hlt.trans_eq (hrank _ _ _ hj hb).2.symm))

end Order

/-! ### A walk that admits -/

section Wins

variable {s s' : State} {n : Nat} {cls : CallClass} {inbound : Option Nat} {l : List Candidate} {w : Winner}
  {records records' : Table CongestionRecord}

/-- A selection that wins is a walk that wins, past the checks before it (R59, R75). -/
theorem selectRoute_ok_iff : selectRoute n cls inbound s = (.ok w, s') ↔ (s.dest n).routes ≠ []
    ∧ gapPasses s.now (s.dest n) cls = true
    ∧ ∃ records', walkFrom s cls inbound (candidates s (s.dest n)) ⟨[], false⟩ s.cmn.records = (.ok w, records')
      ∧ s' = { s with cmn := { s.cmn with records := records' } } := by
  by_cases hr : (s.dest n).routes = []
  · simp [selectRoute_unroutable hr, hr]
  cases hgap : gapPasses s.now (s.dest n) cls with
  | false => simp [selectRoute_gapped hr hgap]
  | true =>
    rw [selectRoute_walks hr hgap]
    constructor
    · intro h
      obtain ⟨hw, hs'⟩ := Prod.mk.inj h
      exact ⟨hr, rfl, _, Prod.ext hw rfl, hs'.symm⟩
    · rintro ⟨-, -, records', hwalk, rfl⟩
      rw [hwalk]

theorem gapPasses_iff_forall (now : Nat) (x : Dest) (cls : CallClass) : gapPasses now x cls = true ↔
    ∀ y, x.restriction = some y → cls = .ordinary ∨ cls = .low → y.nextAdmit ≤ now := by
  rw [gapPasses_eq_true_iff]
  cases x.restriction with
  | none => simp
  | some y => cases cls <;> simp

end Wins

/-- Settles O30: the walk that admits has gone over the candidates before the winner's, counting a refusal on each group that it examined, and counts an attempt on the winner's. -/
theorem walkTakesTheFirstGroupThatAdmits : Obligations.WalkTakesTheFirstGroupThatAdmits := by
  refine ⟨fun s cls inbound cands w records records' h => ?_, fun s n hinv => ⟨fun e => ?_, ?_⟩,
    fun s s' n cls inbound w => ?_⟩
  · obtain ⟨pre, c, post, x, rfl, helig, hhead, hw, rfl, hpre⟩ := walkFrom_ok h
    obtain ⟨hx, hnew⟩ := eligible_eq_some_iff.1 helig
    obtain ⟨hadmits, hhead⟩ := admittedHead_eq_some_iff.1 hhead
    have hfirst : ¬ GroupUsable s inbound pre c.group := fun hg => hnew (mem_walkOver_examined.2 (.inr hg))
    rw [hw]
    refine ⟨pre, c, post, x, rfl, hx, hadmits, hhead, rfl, rfl, rfl, fun c' hc' => ?_,
      fun pre₁ c' pre₂ y hsplit hy => ?_, fun g => ⟨?_, fun hg hmet => ?_, fun hg hnot => ?_⟩⟩
    · by_contra hcon
      obtain ⟨hg, hu⟩ := not_or.1 hcon
      obtain ⟨y, hy⟩ := not_forall_not.1 hu
      exact hfirst ⟨c', y, hc', not_not.1 hg, hy⟩
    · by_cases hmet : c'.group ∈ (walkOver s inbound pre₁ ⟨[], false⟩ records).1.examined
      · obtain ⟨c'', z, hc'', hg, hz⟩ := (mem_walkOver_examined.1 hmet).resolve_left List.not_mem_nil
        exact .inl ⟨c'', hc'', hg, hy.eq_of_group hz hg ▸ hz⟩
      · exact .inr (admittedHead_eq_none_iff.1 (hpre _ _ _ _ hsplit (eligible_eq_some_iff.2 ⟨hy, hmet⟩)))
    · rintro rfl
      rw [get_countOn, if_pos rfl, get_walkOver_of_not_met (.inr hfirst)]
      simp [countExamination, countUp_eq]
    · obtain ⟨c', y, hc', hcg, hy⟩ := hmet
      rw [get_countOn, if_neg hg]
      exact get_walkOver_of_met List.not_mem_nil ⟨c', y, hc', hcg, hy⟩
    · rw [get_countOn, if_neg hg]
      exact get_walkOver_of_not_met (.inr fun ⟨c', y, hc', hcg, hy⟩ => hnot c' y hc' hcg hy)
  · simp only [(hinv.dests n).mem_candidates, mem_yieldsOf]
  · exact (hinv.dests n).candidates_pairwise fun m => (hinv.sets m).1
  · rw [selectRoute_ok_iff, gapPasses_iff_forall]
    rfl

end Sys2Proof.Machine
end

section
/-! SUPPORT. What ROUTE and REROUTE do to the routing tables (R66, R75, R76): the one destination that a placed call moves. -/

namespace Sys2Proof.Machine

open Sys2Proof

/-! ### The destination of a placed call -/

section Placed

variable {s t : State} {d : Nat} {cls : CallClass} {w : Winner}

theorem dest_congr (h : t.rse = s.rse) (n : Nat) : t.dest n = s.dest n := by
  rw [State.dest, State.dest, h]

/-- Where the gap check lets the call pass, its admission moves the destination as R66 and R76 have it. -/
theorem admittedDest_placed {now : Nat} {x : Dest} (hgap : gapPasses now x cls = true) :
    x.Placed now cls w (admittedDest now cls w x) where
  routes := by
    unfold admittedDest
    simp only
    split <;> exact ⟨rfl, rfl⟩
  moved hrot := by
    rw [admittedDest, if_pos hrot]
    exact (get_reorder _ _ _ _).trans (if_pos rfl)
  still k hk := by
    unfold admittedDest
    simp only
    split
    · rename_i hrot
      exact (get_reorder _ _ _ _).trans (if_neg (hk.resolve_right (by simp [hrot])))
    · rfl
  opened hnone := by
    unfold admittedDest
    simp only
    split <;> exact congrArg (Option.map _) hnone
  gapped y hy hcls := by
    have hadmitted : admittedRestriction now cls y = { y with lastAdmit := some now, nextAdmit := now + y.gap * 100 } := by
      rcases hcls with rfl | rfl <;> rfl
    refine ⟨(gapPasses_iff_forall _ _ _).1 hgap y hy hcls, ?_⟩
    unfold admittedDest
    simp only
    rw [← hadmitted]
    split <;> exact congrArg (Option.map _) hy
  ungapped y hy hcls := by
    have hadmitted : admittedRestriction now cls y = y := by rcases hcls with rfl | rfl <;> rfl
    unfold admittedDest
    simp only
    conv_rhs => rw [← hadmitted]
    split <;> exact congrArg (Option.map _) hy

theorem settleDest_dest (d' : Nat) : (settleDest d cls w s).dest d' =
    if d' = d then admittedDest s.now cls w (s.dest d) else s.dest d' :=
  State.setDest_dest s d _ d'

theorem settleDest_rse_congr (hrse : t.rse = s.rse) (htmb : t.tmb = s.tmb) :
    (settleDest d cls w t).rse = (settleDest d cls w s).rse := by
  simp only [settleDest, State.setDest, dest_congr hrse, hrse, State.now, htmb]

/-- The routing tables of `t` are those of `s` after a call of class `cls` to destination `d` has been placed by a selection with winner `w`. -/
structure State.SettledBy (s : State) (d : Nat) (cls : CallClass) (w : Winner) (t : State) : Prop where
  wins : ∃ inbound s', selectRoute d cls inbound s = (.ok w, s')
  rse : t.rse = (settleDest d cls w s).rse

theorem State.SettledBy.placed (h : s.SettledBy d cls w t) : (s.dest d).Placed s.tmb.running cls w (t.dest d) := by
  obtain ⟨inbound, s', hsel⟩ := h.wins
  rw [dest_congr h.rse, settleDest_dest, if_pos rfl]
  exact admittedDest_placed (selectRoute_ok_iff.1 hsel).2.1

theorem State.SettledBy.dest_ne (h : s.SettledBy d cls w t) {d' : Nat} (hne : d' ≠ d) : t.dest d' = s.dest d' := by
  rw [dest_congr h.rse, settleDest_dest, if_neg hne]

/-- The reply's delivery leaves the routing tables. -/
theorem State.SettledBy.deliver (h : s.SettledBy d cls w t) (r : Requester) (c : Instr) (a : Reply) :
    s.SettledBy d cls w (t.deliver r c a) :=
  ⟨h.wins, (State.deliver_rse t r c a).trans h.rse⟩

end Placed

/-! ### ROUTE -/

section Route

variable {s s' t : State} {p : PortId} {d n i : Nat} {cls : CallClass} {plan : InboundPlan} {w : Winner}
  {inb : Option Nat}

theorem completeRoute_rse_eq : (completeRoute p d cls plan i w s).2.rse = (settleDest d cls w s).rse := by
  refine settleDest_rse_congr ?_ ?_
  · show (outboundHunt w.group w.circuit (takeInbound plan s)).rse = s.rse
    simp
  · exact (((takeInbound_sameBut s plan).trans (outboundHunt_sameBut _ _ _)).tmb.resolve_left (by decide) :)

theorem routeWith_settles (h : selectRoute d cls (planGroup plan) s = (.ok w, s')) :
    s.SettledBy d cls w (routeWith p d cls plan i s).2 := by
  have hcount := selectRoute_counted h
  refine ⟨⟨_, _, h⟩, ?_⟩
  rw [routeWith_ok h, completeRoute_rse_eq]
  exact settleDest_rse_congr hcount.rse hcount.tmb

/-- A routing that fails leaves the routing tables (R68). -/
theorem routeWith_rse_of_error {e : Reason} (h : selectRoute d cls (planGroup plan) s = (.error e, s')) :
    (routeWith p d cls plan i s).2.rse = s.rse := by
  rw [routeWith_error h]
  exact ((dropInbound_sameBut s' plan).rse.resolve_left (by decide)).trans (selectRoute_counted h).rse

/-- A displacement leaves all that a selection reads and that an admission writes of the destination. -/
theorem displace_settles {c : Nat} (h : (displace c s).SettledBy d cls w t) : s.SettledBy d cls w t := by
  have hsame := displace_sameBut s c
  have hrse := hsame.rse.resolve_left (by decide)
  have htmb := hsame.tmb.resolve_left (by decide)
  obtain ⟨inbound, s', hsel⟩ := h.wins
  exact ⟨⟨_, _, selectRoute_congr (hsame.cpl.resolve_left (by decide)).symm hrse.symm
    (hsame.cmn.resolve_left (by decide)).symm (hsame.cau.resolve_left (by decide)).symm htmb.symm hsel⟩,
    h.rse.trans (settleDest_rse_congr hrse htmb)⟩

theorem displace_selectRoute {c : Nat} {inbound : Option Nat} (h : selectRoute d cls inbound s = (.ok w, s')) :
    selectRoute d cls inbound (displace c s) = (.ok w, { displace c s with cmn := s'.cmn }) :=
  have hsame := displace_sameBut s c
  selectRoute_congr (hsame.cpl.resolve_left (by decide)) (hsame.rse.resolve_left (by decide))
    (hsame.cmn.resolve_left (by decide)) (hsame.cau.resolve_left (by decide)) (hsame.tmb.resolve_left (by decide)) h

/-- A call that passes the checks of R29, glare or not, is placed by the selection that wins for it. -/
theorem routeInbound_settles {grp : Option Nat}
    (hinb : (inb = none ∧ grp = none) ∨ ∃ c g glare, inb = some c ∧ checkInbound s c = .ok (g, glare) ∧ grp = some g)
    (h : selectRoute d cls grp s = (.ok w, s')) : s.SettledBy d cls w (routeInbound p d cls inb i s).2 := by
  rcases hinb with ⟨rfl, rfl⟩ | ⟨c, g, glare, rfl, hck, rfl⟩
  · exact routeWith_settles (plan := .originating) h
  · cases glare with
    | false =>
      simp only [routeInbound, hck]
      exact routeWith_settles (plan := .take g c) h
    | true =>
      simp only [routeInbound, hck]
      exact displace_settles (routeWith_settles (plan := .displaced g c) (displace_selectRoute h))

/-- All that a ROUTE can do to the routing tables: nothing, or the placing of its call. -/
theorem routeWith_rse_cases : (routeWith p d cls plan i s).2.rse = s.rse
    ∨ ∃ w, s.SettledBy d cls w (routeWith p d cls plan i s).2 := by
  cases hsel : selectRoute d cls (planGroup plan) s with
  | mk e s' =>
    cases e with
    | error e => exact .inl (routeWith_rse_of_error hsel)
    | ok w => exact .inr ⟨w, routeWith_settles hsel⟩

theorem routeInbound_rse_cases : (routeInbound p d cls inb i s).2.rse = s.rse
    ∨ ∃ w, s.SettledBy d cls w (routeInbound p d cls inb i s).2 := by
  unfold routeInbound
  split
  · exact routeWith_rse_cases
  split
  · exact .inl rfl
  · exact routeWith_rse_cases
  · refine routeWith_rse_cases.imp (fun h => ?_) fun ⟨w, h⟩ => ⟨w, displace_settles h⟩
    exact h.trans ((displace_sameBut s _).rse.resolve_left (by decide))

theorem routeCall_rse_cases (p : PortId) (d n : Nat) (inb : Option Nat) (s : State) :
    (routeCall p d n inb s).2.rse = s.rse
      ∨ ∃ cls w, classOf n = some cls ∧ s.SettledBy d cls w (routeCall p d n inb s).2 := by
  unfold routeCall
  split
  · exact .inl rfl
  split
  · exact .inl rfl
  rename_i cls hcls
  split
  · exact .inl rfl
  · exact routeInbound_rse_cases.imp_right fun ⟨w, h⟩ => ⟨cls, w, hcls, h⟩

end Route

/-! ### REROUTE -/

section Reroute

variable {s s' : State} {p : PortId} {i g : Nat} {x : CallRecord} {w : Winner}

theorem completeReroute_rse_eq : (completeReroute i g x w s).2.rse = (settleDest x.dest x.cls w s).rse := by
  refine settleDest_rse_congr ?_ ?_
  · show (outboundHunt w.group w.circuit s).rse = s.rse
    simp
  · exact ((outboundHunt_sameBut s w.group w.circuit).tmb.resolve_left (by decide) :)

theorem rerouteCall_settles (hf : findOwnCall s p i g = .ok x) (hst : x.state = .displaced)
    (hsel : selectRoute x.dest x.cls (x.inbound.map fun b => b.group) s = (.ok w, s')) :
    s.SettledBy x.dest x.cls w (rerouteCall p i g s).2 := by
  have hcount := selectRoute_counted hsel
  refine ⟨⟨_, _, hsel⟩, ?_⟩
  rw [rerouteCall_placed hf hst hsel, completeReroute_rse_eq]
  exact settleDest_rse_congr hcount.rse hcount.tmb

/-- All that a REROUTE can do to the routing tables: nothing, or the placing of its call. -/
theorem rerouteCall_rse_cases (p : PortId) (i g : Nat) (s : State) : (rerouteCall p i g s).2.rse = s.rse
    ∨ ∃ x w, s.call i = some x ∧ s.SettledBy x.dest x.cls w (rerouteCall p i g s).2 := by
  cases hf : findOwnCall s p i g with
  | error e => exact .inl (congrArg (fun u => u.2.rse) (rerouteCall_error hf))
  | ok x =>
    by_cases hst : x.state = .displaced
    · cases hsel : selectRoute x.dest x.cls (x.inbound.map fun b => b.group) s with
      | mk e s' =>
        cases e with
        | error e =>
          rw [rerouteCall_failed hf hst hsel]
          exact .inl (selectRoute_counted hsel).rse
        | ok w =>
          obtain ⟨-, hcall, -⟩ := findOwnCall_ok hf
          exact .inr ⟨x, w, hcall, rerouteCall_settles hf hst hsel⟩
    · exact .inl (congrArg (fun u => u.2.rse) (rerouteCall_wrongState hf hst))

end Reroute

/-! ### The spacing of admissions (R75, R76) -/

section Spacing

variable {s t : State} {r : Requester} {d n i g : Nat} {cls : CallClass} {inb : Option Nat} {w : Winner}

theorem exec_route_rse_cases (h : exec (.route r d n inb) s = .next t) : t.rse = s.rse
    ∨ ∃ cls w, classOf n = some cls ∧ s.SettledBy d cls w t := by
  rcases (serve_next _ _ _ s t).1 h with ⟨-, rfl⟩ | ⟨-, rfl⟩
  · exact (routeCall_rse_cases _ d n inb s).imp (State.deliver_rse _ _ _ _).trans
      fun ⟨cls, w, hcls, hw⟩ => ⟨cls, w, hcls, hw.deliver _ _ _⟩
  · exact .inl rfl

theorem exec_reroute_rse_cases (h : exec (.reroute r i g) s = .next t) : t.rse = s.rse
    ∨ ∃ x w, s.call i = some x ∧ s.SettledBy x.dest x.cls w t := by
  rcases (serve_next _ _ _ s t).1 h with ⟨-, rfl⟩ | ⟨-, rfl⟩
  · exact (rerouteCall_rse_cases _ i g s).imp (State.deliver_rse _ _ _ _).trans
      fun ⟨x, w, hx, hw⟩ => ⟨x, w, hx, hw.deliver _ _ _⟩
  · exact .inl rfl

/-- The next-admit time of a restriction lies one interval behind its last admission, so a call that waits for it comes no sooner (R75, R76). -/
theorem Restriction.Inv.spaced {now : Nat} {x : Restriction} (h : x.Inv now) (hnow : x.nextAdmit ≤ now) {last : Nat}
    (hlast : x.lastAdmit = some last) : last + x.gap * 100 ≤ now := by
  obtain ⟨-, hnext⟩ := h.admitted last hlast
  rw [gapMs] at hnext
  omega

/-- A placed call moves no order but by sending one position to its end (R66). -/
theorem Dest.Placed.order {now : Nat} {x y : Dest} (h : x.Placed now cls w y) (k : Nat) :
    Table.get [] y.orders k = Table.get [] x.orders k
      ∨ ∃ i, Table.get [] y.orders k = (Table.get [] x.orders k).erase i ++ [i] := by
  by_cases hk : k = w.rank ∧ rotates x w.rank = true
  · obtain ⟨rfl, hrot⟩ := hk
    exact .inr ⟨w.position, h.moved hrot⟩
  · refine .inl (h.still k ?_)
    rwa [not_and_or, Bool.not_eq_true] at hk

/-- A placed call moves a restriction only when it is ORDINARY or LOW (R76). -/
theorem Dest.Placed.restriction {now : Nat} {x y : Dest} (h : x.Placed now cls w y) {z : Restriction}
    (hz : x.restriction = some z) : y.restriction = some z ∨ ((cls = .ordinary ∨ cls = .low) ∧ z.nextAdmit ≤ now
      ∧ y.restriction = some { z with lastAdmit := some now, nextAdmit := now + z.gap * 100 }) := by
  cases cls with
  | emergency => exact .inl (h.ungapped z hz (.inl rfl))
  | priority => exact .inl (h.ungapped z hz (.inr rfl))
  | ordinary => exact .inr ⟨.inl rfl, h.gapped z hz (.inl rfl)⟩
  | low => exact .inr ⟨.inr rfl, h.gapped z hz (.inr rfl)⟩

end Spacing

/-- Settles O38: a ROUTE or REROUTE leaves the routing tables, or places its call by a selection that passed the gap check. -/
theorem admissionsAreSpacedByTheGap : Obligations.AdmissionsAreSpacedByTheGap := by
  refine ⟨fun r d n cls inb grp s s' w h hd hcls hq hinb hsel => ?_,
    fun r i g x s s' w h hi hx hg ho hst hsel => ?_, fun r c d cls s t hc h => ?_⟩
  · obtain ⟨i, rest, hq⟩ := List.exists_cons_of_ne_nil hq
    have hset := routeInbound_settles (p := r.port) (i := i) hinb hsel
    rw [← routeCall_eq hd hcls hq] at hset
    exact ⟨_, serve_of_inService h _, (hset.deliver r _ _).placed, fun d' hne => (hset.deliver r _ _).dest_ne hne⟩
  · have hset := rerouteCall_settles (findOwnCall_eq_ok hi hx hg ho) hst hsel
    exact ⟨_, serve_of_inService h _, (hset.deliver r _ _).placed, fun d' hne => (hset.deliver r _ _).dest_ne hne⟩
  · have hcases : t.rse = s.rse ∨ ∃ w, s.SettledBy d cls w t := by
      rcases hc with ⟨n, inb, rfl, hcls⟩ | ⟨i, g, x, rfl, hx, rfl, rfl⟩
      · refine (exec_route_rse_cases h).imp_right fun ⟨cls', w, hcls', hw⟩ => ⟨w, ?_⟩
        exact Option.some.inj (hcls.symm.trans hcls') ▸ hw
      · refine (exec_reroute_rse_cases h).imp_right fun ⟨x', w, hx', hw⟩ => ⟨w, ?_⟩
        exact Option.some.inj (hx.symm.trans hx') ▸ hw
    rcases hcases with hrse | ⟨w, hset⟩
    · have hdest := dest_congr hrse
      rw [hdest d]
      exact ⟨rfl, rfl, fun k => .inl rfl, fun d' _ => hdest d', id, fun x hx => .inl hx⟩
    · have hp := hset.placed
      refine ⟨hp.routes.1, hp.routes.2, hp.order, fun d' hne => hset.dest_ne hne, hp.opened, fun x hx => ?_⟩
      refine (hp.restriction hx).imp_right fun ⟨hcls, hnow, hy⟩ => ?_
      exact ⟨hcls, hnow, hy, fun hinv last hlast => hinv.spaced hnow hlast⟩

end Sys2Proof.Machine
end

section
/-! SUPPORT. Every command keeps the agreements resolved (R101, R103, R106), the routing tables in form (R46 to R49) and the restrictions spaced (R71, R74, R76). -/

namespace Sys2Proof.Machine

open Sys2Proof

/-! ### Agreements -/

section Agreements

variable {s t : State} {c : Instr} {a : Agreement}

theorem slotSet_slotSet (l : List Nat) : slotSet (slotSet l) = slotSet l :=
  List.filter_congr fun n hn => by simp only [slotSet, List.mem_filter, hn, true_and, decide_eq_true_eq]

theorem State.AgreementInv.of_cau (h : s.AgreementInv) (hcau : t.cau = s.cau) : t.AgreementInv := fun c => by
  rw [State.agreement, hcau]
  exact h c

theorem rewriteAgreement_agreement (n n' : Nat) (a : Agreement) (s : State) :
    (rewriteAgreement n a s).agreement n' = if n' = n then a else s.agreement n' := by
  unfold rewriteAgreement
  simp only
  split <;> simp

theorem rewriteAgreement_agreementInv (h : s.AgreementInv) (ha : a.Inv) (n : Nat) :
    (rewriteAgreement n a s).AgreementInv := fun n' => by
  rw [rewriteAgreement_agreement]
  split
  · exact ha
  · exact h n'

/-- The offers of a record resolved (R103). -/
theorem resolved_inv {l : List Nat} {offer : Option (List Nat)} (hl : slotsValid l = true)
    (hoffer : ∀ x ∈ offer, x = slotSet x) : Agreement.Inv ⟨l, offer, resolved l offer⟩ :=
  ⟨hl, hoffer, .inl rfl⟩

/-- A MATCHED record that the far carrier's report confirms or contradicts (R106). -/
theorem Agreement.Inv.reported (h : a.Inv) {n : Nat} (hst : a.state = .matched n) {state : AgreementState}
    (hstate : state = .confirmed n ∨ state = .mismatch) : Agreement.Inv { a with state := state } := by
  have hres : resolved a.localOffer a.carrierOffer = .matched n := by
    rcases h.state with hr | ⟨m, -, hc | hc⟩
    · exact hr.symm.trans hst
    · rw [hst] at hc; cases hc
    · rw [hst] at hc; cases hc
  exact ⟨h.offer, h.carrierOffer, .inr ⟨n, hres, hstate⟩⟩

theorem writeLocalOffer_agreementInv (h : s.AgreementInv) (n : Nat) (l : List Nat) :
    (writeLocalOffer n l s).2.AgreementInv := by
  unfold writeLocalOffer
  split
  · exact h
  · rename_i hok
    exact rewriteAgreement_agreementInv h (resolved_inv (by simpa using (not_or.1 hok).2) (h n).carrierOffer) n

theorem writeCarrierOffer_agreementInv (h : s.AgreementInv) (n : Nat) (l : List Nat) :
    (writeCarrierOffer n l s).2.AgreementInv := by
  unfold writeCarrierOffer
  split
  · exact h
  · refine rewriteAgreement_agreementInv h (resolved_inv (h n).offer fun x hx => ?_) n
    obtain rfl := Option.some.inj hx
    exact (slotSet_slotSet l).symm

theorem confirmAgreement_agreementInv (h : s.AgreementInv) (n slot : Nat) :
    (confirmAgreement n slot s).2.AgreementInv := by
  unfold confirmAgreement
  split
  · exact h
  split
  · rename_i m hst
    refine rewriteAgreement_agreementInv h ((h n).reported hst ?_) n
    split
    · exact .inl rfl
    · exact .inr rfl
  all_goals exact h

theorem withdrawAgreement_agreementInv (h : s.AgreementInv) (n : Nat) :
    (withdrawAgreement n s).2.AgreementInv := by
  unfold withdrawAgreement
  split
  · exact h
  · exact rewriteAgreement_agreementInv h (resolved_inv (h n).offer fun _ hx => by cases hx) n

theorem serve_agreementInv {r : Requester} {f : State → Reply × State} (hs : s.AgreementInv)
    (hf : (f s).2.AgreementInv) (h : serve r c f s = .next t) : t.AgreementInv :=
  serve_keeps (P := State.AgreementInv) (fun u a hu => hu.of_cau (State.deliver_cau u r c a)) hs hf h

theorem exec_agreementInv (hs : s.AgreementInv) (h : exec c s = .next t) : t.AgreementInv := by
  cases c with
  | powerOnReset pins =>
    obtain rfl := next_inj h
    exact fun _ => agreementInv_reset
  | writeLocalOffer r n l => exact serve_agreementInv hs (writeLocalOffer_agreementInv hs n l) h
  | writeCarrierOffer r n l => exact serve_agreementInv hs (writeCarrierOffer_agreementInv hs n l) h
  | confirmAgreement r n slot => exact serve_agreementInv hs (confirmAgreement_agreementInv hs n slot) h
  | withdrawAgreement r n => exact serve_agreementInv hs (withdrawAgreement_agreementInv hs n) h
  | _ => exact hs.of_cau ((exec_sameBut h).cau.resolve_left (by simp [touches]))

end Agreements

/-! ### Routing tables -/

section Routes

variable {s t : State} {c : Instr} {d : Dest} {k : Nat}

theorem State.RouteInv.of_rse (h : s.RouteInv) (hdests : t.rse.dests = s.rse.dests) (hsets : t.rse.sets = s.rse.sets) :
    t.RouteInv where
  dests n := by
    rw [State.dest, hdests]
    exact h.dests n
  sets n := by
    rw [State.routeSet, hsets]
    exact h.sets n

theorem State.RouteInv.setDest (h : s.RouteInv) (hd : d.Inv) (n : Nat) : (s.setDest n d).RouteInv where
  dests n' := by
    rw [State.setDest_dest]
    split
    · exact hd
    · exact h.dests n'
  sets n' := h.sets n'

theorem Dest.Inv.withRestriction (h : d.Inv) (r : Option Restriction) : Dest.Inv { d with restriction := r } :=
  { h with }

/-- An order rearranged still holds each position of its rank once (R49). -/
theorem Dest.Inv.reorder (h : d.Inv) (hk : rotates d k = true) {f : List Nat → List Nat}
    (hf : (f (Table.get [] d.orders k)).Perm (Table.get [] d.orders k)) : (Machine.reorder d k f).Inv where
  length := h.length
  choices := h.choices
  orders k' := by
    have hold := h.orders k'
    rw [get_reorder]
    show if rotates d k' = true then _ else _
    by_cases he : k' = k
    · subst he
      rw [if_pos hk] at hold ⊢
      rw [if_pos rfl]
      exact hf.trans hold
    · rwa [if_neg he]

theorem turnTo_perm (i : Nat) (l : List Nat) : (turnTo i l).Perm l :=
  List.perm_append_comm.trans (List.Perm.of_eq (List.takeWhile_append_dropWhile))

theorem moveToEnd_perm {i : Nat} {l : List Nat} (h : i ∈ l) : (moveToEnd i l).Perm l :=
  List.perm_append_comm.trans (List.perm_cons_erase h).symm

/-- A mask set or cleared moves no choice (R53). -/
theorem positionsOfRank_maskRoutes (routes : List Choice) (i : Nat) (b : Bool) (k : Nat) :
    positionsOfRank (maskRoutes routes i b) k = positionsOfRank routes k := by
  have hlen : (maskRoutes routes i b).length = routes.length := List.length_modify _ _ _
  have hrank : ∀ j, ((maskRoutes routes i b)[j]?.any fun c : Choice => decide (c.rank = k))
      = routes[j]?.any fun c : Choice => decide (c.rank = k) := fun j => by
    rw [getElem?_maskRoutes, Option.any_map]
    refine congrArg (fun p => routes[j]?.any p) (funext fun c => ?_)
    show decide ((if _ then _ else c).rank = k) = _
    split <;> rfl
  simp only [positionsOfRank, hlen, hrank]

theorem Dest.Inv.masked (h : d.Inv) (i : Nat) (b : Bool) :
    Dest.Inv { d with routes := maskRoutes d.routes i b } where
  length := (List.length_modify _ _ _).trans_le h.length
  choices c hc := by
    obtain ⟨j, hj⟩ := List.mem_iff_getElem?.1 hc
    simp only [getElem?_maskRoutes, Option.map_eq_some_iff] at hj
    obtain ⟨c', hc', rfl⟩ := hj
    have hin := h.choices c' (List.mem_of_getElem? hc')
    split
    · exact hin
    · exact hin
  orders k := by
    rw [positionsOfRank_maskRoutes]
    exact h.orders k

theorem spelledChoice_inRange {a : ChoiceArg} (h : ChoiceWritable a) : (spelledChoice a).inRange := by
  obtain ⟨hrank, -, ⟨hkind, ht⟩ | ⟨hkind, ht⟩⟩ := h
  · exact ⟨hrank, by simpa [spelledChoice, hkind, Config.lastGroup] using ht⟩
  · exact ⟨hrank, by simpa [spelledChoice, hkind, Config.lastSet] using ht⟩

/-- A destination just written has each rotating rank in route list order (R51). -/
theorem written_inv {routes : List Choice} (hlen : routes.length ≤ Config.maxChoices)
    (hin : ∀ c ∈ routes, c.inRange) (rotate : Byte) (r : Option Restriction) :
    Dest.Inv ⟨routes, rotate, writtenOrders routes rotate, r⟩ where
  length := hlen
  choices := hin
  orders k := by
    rw [get_writtenOrders]
    show if rotate.getLsbD k = true then _ else _
    split
    · rename_i hk
      rw [if_pos ⟨BitVec.lt_of_getLsbD hk, hk⟩]
    · rename_i hk
      exact if_neg fun h => hk h.2

/-- The winner of a selection is a choice of its rank (R60). -/
theorem selectRoute_winner {s' : State} {n : Nat} {cls : CallClass} {inbound : Option Nat} {w : Winner}
    (hs : s.RouteInv) (h : selectRoute n cls inbound s = (.ok w, s')) :
    ∃ c, (s.dest n).routes[w.position]? = some c ∧ c.rank = w.rank := by
  obtain ⟨-, -, records', hwalk, -⟩ := selectRoute_ok_iff.1 h
  obtain ⟨pre, e, post, x, hl, -, -, hw, -⟩ := walkFrom_ok hwalk
  have hmem : e ∈ candidates s (s.dest n) := by rw [hl]; simp
  obtain ⟨c, hc, hrank, -⟩ := (hs.dests n).mem_candidates.1 hmem
  rw [hw]
  exact ⟨c, hc, hrank.symm⟩

theorem State.SettledBy.routeInv {n : Nat} {cls : CallClass} {w : Winner} (hs : s.RouteInv)
    (h : s.SettledBy n cls w t) : t.RouteInv := by
  obtain ⟨inbound, s', hsel⟩ := h.wins
  have hd : (admittedDest s.now cls w (s.dest n)).Inv := by
    unfold admittedDest
    simp only
    refine Dest.Inv.withRestriction ?_ _
    split
    · rename_i hrot
      exact (hs.dests n).reorder hrot (moveToEnd_perm (((hs.dests n).mem_order hrot).2 (selectRoute_winner hs hsel)))
    · exact hs.dests n
  exact (hs.setDest hd n).of_rse (congrArg RouteEngine.dests h.rse) (congrArg RouteEngine.sets h.rse)

theorem writeDest_routeInv (h : s.RouteInv) (n : Nat) (rotate : Byte) (l : List ChoiceArg) :
    (writeDest n rotate l s).2.RouteInv := by
  by_cases hok : n ≤ 4095 ∧ l.length ≤ 8 ∧ ∀ a ∈ l, ChoiceWritable a
  · obtain ⟨hn, hlen, hl⟩ := hok
    rw [writeDest_done hn hlen hl]
    refine h.setDest (written_inv ((List.length_map _).trans_le hlen) (fun c hc => ?_) rotate _) n
    obtain ⟨a, ha, rfl⟩ := List.mem_map.1 hc
    exact spelledChoice_inRange (hl a ha)
  · rw [writeDest_badValue hok]
    exact h

theorem writeRouteSet_routeInv (h : s.RouteInv) (n : Nat) (entries : List SetEntryArg) :
    (writeRouteSet n entries s).2.RouteInv := by
  by_cases hok : n ≤ 511 ∧ SetWritable entries
  · rw [writeRouteSet_done hok.1 hok.2]
    obtain ⟨-, -, hlen, hin, hnodup⟩ := hok
    refine ⟨h.dests, fun n' => ?_⟩
    have hget : State.routeSet { s with rse := { s.rse with sets := Table.set [] s.rse.sets n (entries.map (·.number)) } } n'
        = if n' = n then entries.map (·.number) else s.routeSet n' := Table.get_set _ _ _ _ _
    rw [hget]
    split
    · refine ⟨hnodup, (List.length_map _).trans_le hlen, fun g hg => ?_⟩
      obtain ⟨e, he, rfl⟩ := List.mem_map.1 hg
      exact (hin e he).2
    · exact h.sets n'
  · rw [writeRouteSet_badValue hok]
    exact h

theorem maskChoice_routeInv (h : s.RouteInv) (n i m : Nat) : (maskChoice n i m s).2.RouteInv := by
  unfold maskChoice
  split
  · exact h
  split
  · exact h
  · exact h.setDest ((h.dests n).masked i _) n

theorem setFirst_routeInv (h : s.RouteInv) (n i : Nat) : (setFirst n i s).2.RouteInv := by
  unfold setFirst
  split
  · exact h
  split
  · exact h
  split
  · rename_i hrot
    exact h.setDest ((h.dests n).reorder hrot (turnTo_perm i _)) n
  · exact h

theorem setRestriction_routeInv (h : s.RouteInv) (n : Nat) (r : Option Restriction) : (s.setRestriction n r).RouteInv :=
  h.setDest ((h.dests n).withRestriction r) n

theorem farCongestion_routeInv (h : s.RouteInv) (n gap dur : Nat) : (farCongestion n gap dur s).2.RouteInv := by
  unfold farCongestion
  split
  · exact h
  · exact setRestriction_routeInv h n _

theorem openDest_routeInv (h : s.RouteInv) (n : Nat) : (openDest n s).RouteInv :=
  (setRestriction_routeInv h n none).of_rse rfl rfl

theorem farClear_routeInv (h : s.RouteInv) (n : Nat) : (farClear n s).2.RouteInv := by
  unfold farClear
  split
  · exact h
  split
  · exact h
  · exact openDest_routeInv h n

theorem serve_routeInv {r : Requester} {f : State → Reply × State} (hs : s.RouteInv)
    (hf : (f s).2.RouteInv) (h : serve r c f s = .next t) : t.RouteInv :=
  serve_keeps (P := State.RouteInv)
    (fun u a hu => hu.of_rse (by rw [State.deliver_rse]) (by rw [State.deliver_rse])) hs hf h

theorem exec_routeInv (hs : s.RouteInv) (h : exec c s = .next t) : t.RouteInv := by
  have hsame : t.rse = s.rse → t.RouteInv := fun hrse =>
    hs.of_rse (congrArg RouteEngine.dests hrse) (congrArg RouteEngine.sets hrse)
  cases c with
  | powerOnReset pins =>
    obtain rfl := next_inj h
    exact reset_routeInv.of_rse rfl rfl
  | engineGrant =>
    rcases execEngineGrant_cases h with rfl | ⟨p, -, -, rfl⟩
    · exact hs
    · exact hs.of_rse rfl rfl
  | route r d n inb =>
    rcases exec_route_rse_cases h with hrse | ⟨cls, w, -, hw⟩
    · exact hsame hrse
    · exact hw.routeInv hs
  | reroute r i g =>
    rcases exec_reroute_rse_cases h with hrse | ⟨x, w, -, hw⟩
    · exact hsame hrse
    · exact hw.routeInv hs
  | writeDest r n f l => exact serve_routeInv hs (writeDest_routeInv hs n f l) h
  | writeRouteSet r n l => exact serve_routeInv hs (writeRouteSet_routeInv hs n l) h
  | maskChoice r n i m => exact serve_routeInv hs (maskChoice_routeInv hs n i m) h
  | setFirst r n i => exact serve_routeInv hs (setFirst_routeInv hs n i) h
  | farCongestion r n g d => exact serve_routeInv hs (farCongestion_routeInv hs n g d) h
  | farClear r n => exact serve_routeInv hs (farClear_routeInv hs n) h
  | restrictionEnd n => exact eventWhen_keeps (P := State.RouteInv) hs (fun _ => openDest_routeInv hs n) h
  | _ => exact hsame ((exec_sameBut h).rse.resolve_left (by simp [touches]))

end Routes

/-! ### Restrictions -/

section Restrictions

variable {s t : State} {c : Instr} {now : Nat} {x : Restriction}

theorem Restriction.Inv.mono (h : x.Inv now) {later : Nat} (hle : now ≤ later) : x.Inv later :=
  ⟨h.gap, fun last hlast => ⟨(h.admitted last hlast).1.trans hle, (h.admitted last hlast).2⟩,
    fun hnone => (h.fresh hnone).trans hle⟩

/-- An admission sets the next-admit time one interval behind it (R76). -/
theorem Restriction.Inv.admits (h : x.Inv now) :
    Restriction.Inv now { x with lastAdmit := some now, nextAdmit := now + x.gap * 100 } where
  gap := h.gap
  admitted last hlast := by
    obtain rfl := Option.some.inj hlast
    exact ⟨Nat.le_refl _, rfl⟩
  fresh := nofun

/-- A report opens a restriction, or tightens it from its last admission (R73, R74). -/
theorem reportedRestriction_inv {old : Option Restriction} (h : ∀ y, old = some y → y.Inv now) {g : Nat}
    (hg : 1 ≤ g ∧ g ≤ Config.maxGap) (d : Nat) : (reportedRestriction now g d old).Inv now := by
  cases old with
  | none => exact ⟨hg, nofun, fun _ => Nat.le_refl _⟩
  | some y =>
    have hy := h y rfl
    unfold reportedRestriction
    simp only
    split
    · refine ⟨hg, fun last hlast => ⟨(hy.admitted last hlast).1, ?_⟩, fun hnone => ?_⟩
      · show (match y.lastAdmit with | some last => _ | none => _) = _
        rw [hlast]
      · show (match y.lastAdmit with | some last => _ | none => _) ≤ _
        rw [hnone]
        exact hy.fresh hnone
    · exact { hy with }

theorem State.RestrictionInv.of_dests (h : s.RestrictionInv) (hdest : ∀ n, t.dest n = s.dest n)
    (hnow : s.now ≤ t.now) : t.RestrictionInv := fun n x hx => by
  rw [hdest] at hx
  exact (h n x hx).mono hnow

theorem setDest_restrictionInv {d : Dest} (h : s.RestrictionInv)
    (hd : ∀ x, d.restriction = some x → x.Inv s.now) (n : Nat) : (s.setDest n d).RestrictionInv := fun n' x hx => by
  rw [State.setDest_dest] at hx
  split at hx
  · exact hd x hx
  · exact h n' x hx

/-- A destination rewritten with its restriction kept. -/
theorem setDest_restrictionInv_of_eq {d : Dest} {n : Nat} (h : s.RestrictionInv)
    (hd : d.restriction = (s.dest n).restriction) : (s.setDest n d).RestrictionInv :=
  setDest_restrictionInv h (fun x hx => h n x (hd.symm.trans hx)) n

theorem State.SettledBy.restrictionInv {n : Nat} {cls : CallClass} {w : Winner} (hs : s.RestrictionInv)
    (h : s.SettledBy n cls w t) (htmb : t.tmb = s.tmb) : t.RestrictionInv := fun n' x hx => by
  have hnow : t.now = s.now := congrArg TimeBase.running htmb
  rw [hnow]
  by_cases hne : n' = n
  · subst hne
    have hp := h.placed
    cases hold : (s.dest n').restriction with
    | none =>
      rw [hp.opened hold] at hx
      cases hx
    | some y =>
      rcases hp.restriction hold with hy | ⟨-, -, hy⟩ <;> obtain rfl := Option.some.inj (hy.symm.trans hx)
      · exact hs n' y hold
      · exact (hs n' y hold).admits
  · rw [h.dest_ne hne] at hx
    exact hs n' x hx

theorem writeDest_restrictionInv (h : s.RestrictionInv) (n : Nat) (rotate : Byte) (l : List ChoiceArg) :
    (writeDest n rotate l s).2.RestrictionInv := by
  unfold writeDest
  split
  · exact h
  split
  · exact h
  · exact setDest_restrictionInv_of_eq h rfl

theorem writeRouteSet_restrictionInv (h : s.RestrictionInv) (n : Nat) (entries : List SetEntryArg) :
    (writeRouteSet n entries s).2.RestrictionInv := by
  unfold writeRouteSet
  split
  · exact h
  · exact h.of_dests (fun _ => rfl) (Nat.le_refl _)

theorem maskChoice_restrictionInv (h : s.RestrictionInv) (n i m : Nat) : (maskChoice n i m s).2.RestrictionInv := by
  unfold maskChoice
  split
  · exact h
  split
  · exact h
  · exact setDest_restrictionInv_of_eq h rfl

theorem setFirst_restrictionInv (h : s.RestrictionInv) (n i : Nat) : (setFirst n i s).2.RestrictionInv := by
  unfold setFirst
  split
  · exact h
  split
  · exact h
  split
  · exact setDest_restrictionInv_of_eq h rfl
  · exact h

theorem farCongestion_restrictionInv (h : s.RestrictionInv) (n gap dur : Nat) :
    (farCongestion n gap dur s).2.RestrictionInv := by
  have hgap : 1 ≤ clamp 1 Config.maxGap gap ∧ clamp 1 Config.maxGap gap ≤ Config.maxGap := by
    unfold clamp Config.maxGap
    omega
  unfold farCongestion
  split
  · exact h
  · refine setDest_restrictionInv h (fun x hx => ?_) n
    obtain rfl := Option.some.inj hx
    exact reportedRestriction_inv (h n) hgap _

theorem openDest_restrictionInv (h : s.RestrictionInv) (n : Nat) : (openDest n s).RestrictionInv :=
  (setDest_restrictionInv h (fun _ hx => by cases hx) n).of_dests (fun _ => rfl) (Nat.le_refl _)

theorem farClear_restrictionInv (h : s.RestrictionInv) (n : Nat) : (farClear n s).2.RestrictionInv := by
  unfold farClear
  split
  · exact h
  split
  · exact h
  · exact openDest_restrictionInv h n

/-- The running time never goes back (R146). -/
theorem now_le_tick (s : State) : s.now ≤ (tick s).now := by
  show s.tmb.running ≤ (advance s.tmb).running
  unfold advance
  simp only
  split <;> simp only <;> split <;> omega

theorem setTime_now (day second milli : Nat) (s : State) : (setTime day second milli s).2.now = s.now := by
  unfold setTime
  split <;> rfl

theorem serve_restrictionInv {r : Requester} {f : State → Reply × State} (hs : s.RestrictionInv)
    (hf : (f s).2.RestrictionInv) (h : serve r c f s = .next t) : t.RestrictionInv :=
  serve_keeps (P := State.RestrictionInv) (fun u a hu => hu.of_dests (State.deliver_dest u r c a)
    (State.deliver_now u r c a).ge) hs hf h

theorem exec_restrictionInv (hs : s.RestrictionInv) (h : exec c s = .next t) : t.RestrictionInv := by
  have hsame : t.rse = s.rse → t.tmb = s.tmb → t.RestrictionInv := fun hrse htmb =>
    hs.of_dests (dest_congr hrse) (congrArg TimeBase.running htmb).ge
  cases c with
  | powerOnReset pins =>
    obtain rfl := next_inj h
    exact fun n x hx => by cases hx
  | millisecondTick =>
    exact eventWhen_keeps (P := State.RestrictionInv) hs (fun _ => hs.of_dests (fun _ => rfl) (now_le_tick s)) h
  | setTime r d n m =>
    exact serve_restrictionInv hs (hs.of_dests
      (dest_congr ((setTime_sameBut s d n m).rse.resolve_left (by decide))) (setTime_now d n m s).ge) h
  | engineGrant =>
    rcases execEngineGrant_cases h with rfl | ⟨p, -, -, rfl⟩
    · exact hs
    · exact hs.of_dests (fun _ => rfl) (Nat.le_refl _)
  | route r d n inb =>
    have htmb := (exec_sameBut h).tmb.resolve_left (by simp [touches])
    rcases exec_route_rse_cases h with hrse | ⟨cls, w, -, hw⟩
    · exact hsame hrse htmb
    · exact hw.restrictionInv hs htmb
  | reroute r i g =>
    have htmb := (exec_sameBut h).tmb.resolve_left (by simp [touches])
    rcases exec_reroute_rse_cases h with hrse | ⟨x, w, -, hw⟩
    · exact hsame hrse htmb
    · exact hw.restrictionInv hs htmb
  | writeDest r n f l => exact serve_restrictionInv hs (writeDest_restrictionInv hs n f l) h
  | writeRouteSet r n l => exact serve_restrictionInv hs (writeRouteSet_restrictionInv hs n l) h
  | maskChoice r n i m => exact serve_restrictionInv hs (maskChoice_restrictionInv hs n i m) h
  | setFirst r n i => exact serve_restrictionInv hs (setFirst_restrictionInv hs n i) h
  | farCongestion r n g d => exact serve_restrictionInv hs (farCongestion_restrictionInv hs n g d) h
  | farClear r n => exact serve_restrictionInv hs (farClear_restrictionInv hs n) h
  | restrictionEnd n =>
    exact eventWhen_keeps (P := State.RestrictionInv) hs (fun _ => openDest_restrictionInv hs n) h
  | _ =>
    exact hsame ((exec_sameBut h).rse.resolve_left (by simp [touches]))
      ((exec_sameBut h).tmb.resolve_left (by simp [touches]))

end Restrictions

/-- Settles O56: the command at the front leaves what it does not touch, and writes each agreement, order and restriction as the rules have it. -/
theorem stepsKeepAgreementsAndRoutes : Obligations.StepsKeepAgreementsAndRoutes := by
  intro s t h
  unfold step at h
  split at h
  · exact next_inj h ▸ ⟨id, id, id⟩
  · rename_i c rest _
    exact ⟨fun hs => exec_agreementInv (s := { s with pending := rest }) hs h,
      fun hs => exec_routeInv (s := { s with pending := rest }) (hs.of_rse rfl rfl) h,
      fun hs => exec_restrictionInv (s := { s with pending := rest }) hs h⟩

end Sys2Proof.Machine
end

section
/-! SUPPORT. Call gapping: what a report, a clearance and the end of a restriction make of a destination (R71 to R78). -/

namespace Sys2Proof.Machine

open Sys2Proof

/-! ### Reports -/

section Reports

variable {s : State} {d gap dur g n : Nat}

/-- A report on a RESTRICTED destination keeps the larger interval and the later end, and counts a larger interval from the last admission (R74). -/
theorem reportedRestriction_some (now g n : Nat) (y : Restriction) :
    reportedRestriction now g n (some y) =
      { gap := max g y.gap
        nextAdmit := match y.lastAdmit with
          | some a => if y.gap < g then a + g * 100 else y.nextAdmit
          | none => y.nextAdmit
        lastAdmit := y.lastAdmit
        endTime := max y.endTime (now + n * 1000) } := by
  unfold reportedRestriction
  by_cases hlt : y.gap < g
  · cases hlast : y.lastAdmit <;> simp [hlast, hlt, gapMs, max_eq_left hlt.le]
  · cases hlast : y.lastAdmit <;> simp [hlast, hlt, max_eq_right (Nat.not_lt.1 hlt)]

/-- The result of a request two fields of which are clamped. -/
theorem doneOr_ne_or (g gap n dur : Nat) :
    doneOr (decide (g ≠ gap ∨ n ≠ dur)) = if g = gap ∧ n = dur then .done else .adjusted := by
  rw [doneOr, ← ite_not]
  exact if_congr (by rw [decide_eq_true_eq, not_or, not_not, not_not]) rfl rfl

theorem farCongestion_badValue (hd : 4095 < d) : farCongestion d gap dur s = (⟨.badValue, []⟩, s) := if_pos hd

/-- What a report in range answers and writes, its interval and duration clamped (R73). -/
theorem farCongestion_done (hd : d ≤ 4095) (hg : g = if gap = 0 then 1 else if 600 < gap then 600 else gap)
    (hn : n = if dur = 0 then 1 else if 3600 < dur then 3600 else dur) :
    farCongestion d gap dur s =
      (⟨if g = gap ∧ n = dur then .done else .adjusted,
          restrictionBytes (some (reportedRestriction s.tmb.running g n (s.dest d).restriction))⟩,
        s.setRestriction d (some (reportedRestriction s.tmb.running g n (s.dest d).restriction))) := by
  have hg' : clamp 1 Config.maxGap gap = g := (clamp_one 600 gap (by decide)).trans hg.symm
  have hn' : clamp 1 Config.maxRestrictionSeconds dur = n := (clamp_one 3600 dur (by decide)).trans hn.symm
  have hd' : ¬ Config.lastDest < d := Nat.not_lt.2 hd
  simp only [farCongestion, if_neg hd', hg', hn', doneOr_ne_or, State.now]

theorem setRestriction_deliver_dest (s : State) (d : Nat) (x : Option Restriction) (r : Requester) (c : Instr)
    (a : Reply) : ((s.setRestriction d x).deliver r c a).dest d = { s.dest d with restriction := x } :=
  setDest_deliver_dest s d _ r c a

end Reports

/-- Settles O39: a report writes `reportedRestriction` of the clamped interval and duration, which on a RESTRICTED destination takes the maximum of old and new. -/
theorem farCongestionOnlyTightens : Obligations.FarCongestionOnlyTightens := by
  refine fun r d gap dur s h => ⟨fun hd => serve_eq h _ (farCongestion_badValue hd), fun hd g n hg hn => ?_⟩
  refine ⟨_, _, serve_eq h _ (farCongestion_done hd hg hn),
    congrArg Dest.restriction (setRestriction_deliver_dest s d _ r _ _), fun hopen => ?_, fun y hy => ?_, ?_, ?_, ?_,
    setDest_deliver_frame s d _ r _ _⟩
  · rw [hopen]
    rfl
  · rw [hy, reportedRestriction_some]
    exact ⟨rfl, rfl, rfl, rfl⟩
  all_goals rw [setRestriction_deliver_dest]

/-! ### The end of a restriction -/

section Ends

variable {s : State} {d now : Nat} {x : Restriction}

theorem endDue_iff {dest : Dest} : endDue now dest = true ↔ ∃ x, dest.restriction = some x ∧ x.endTime ≤ now := by
  simp only [endDue, Option.any_eq_true, decide_eq_true_eq]

theorem exec_restrictionEnd_of_due (hx : (s.dest d).restriction = some x) (hle : x.endTime ≤ s.now) :
    exec (.restrictionEnd d) s = .next (openDest d s) :=
  if_pos (endDue_iff.2 ⟨x, hx, hle⟩)

theorem exec_restrictionEnd_of_not_due (h : ∀ x, (s.dest d).restriction = some x → s.now < x.endTime) :
    exec (.restrictionEnd d) s = .next s :=
  if_neg fun hdue => by
    obtain ⟨x, hx, hle⟩ := endDue_iff.1 hdue
    exact Nat.not_lt.2 hle (h x hx)

theorem farClear_badValue (hd : 4095 < d) : farClear d s = (⟨.badValue, []⟩, s) := if_pos hd

theorem farClear_open (hd : d ≤ 4095) (h : (s.dest d).restriction = none) : farClear d s = (⟨.done, []⟩, s) := by
  have hd' : ¬ Config.lastDest < d := Nat.not_lt.2 hd
  simp only [farClear, if_neg hd', h, Reply.plain]

theorem farClear_restricted (hd : d ≤ 4095) (h : (s.dest d).restriction = some x) :
    farClear d s = (⟨.done, []⟩, openDest d s) := by
  have hd' : ¬ Config.lastDest < d := Nat.not_lt.2 hd
  simp only [farClear, if_neg hd', h, Reply.plain]

theorem openDest_dest (d d' : Nat) (s : State) :
    (openDest d s).dest d' = if d' = d then { s.dest d with restriction := none } else s.dest d' := by
  rw [openDest, State.raiseAll_dest, State.setRestriction_dest]

theorem openDest_rse (d : Nat) (s : State) :
    (openDest d s).rse = { s.rse with dests := (openDest d s).rse.dests } := rfl

theorem openDest_pct (d : Nat) (s : State) : (openDest d s).pct = (s.raiseAll (.destOpened d)).pct :=
  raiseAll_pct_congr rfl rfl _

theorem openDest_port (d : Nat) (s : State) (p : PortId) :
    (openDest d s).port p = offerNotice ⟨.destOpened d, s.noticeStamp⟩ (s.port p) := by
  rw [openDest, State.raiseAll_port]
  rfl

/-- Whoever tells of it, a restriction ends with the destination OPEN, and with what the ports are told (R77). -/
theorem opened_frame {t u : State} (hrse : t.rse = (openDest d s).rse) (hsame : s.SameBut [.pct, .rse] t)
    (hpct : t.pct = u.pct) :
    t.dest d = { s.dest d with restriction := none } ∧ (∀ d', d' ≠ d → t.dest d' = s.dest d')
      ∧ t.rse = { s.rse with dests := t.rse.dests } ∧ s.SameBut [.pct, .rse] t ∧ t.pct = u.pct := by
  refine ⟨?_, fun d' hne => ?_, ?_, hsame, hpct⟩
  · rw [dest_congr hrse, openDest_dest, if_pos rfl]
  · rw [dest_congr hrse, openDest_dest, if_neg hne]
  · rw [hrse]
    exact openDest_rse d s

end Ends

/-- Settles O40: a FAR_CLEAR and a restriction's end that is due both come to `openDest`. -/
theorem restrictionsEnd : Obligations.RestrictionsEnd := by
  refine ⟨fun c d s u x hx hend => ?_,
    fun r d s h => ⟨fun hd => serve_eq h _ (farClear_badValue hd), fun hd hopen => serve_eq h _ (farClear_open hd hopen)⟩,
    fun d s h => exec_restrictionEnd_of_not_due h, fun d s => rfl⟩
  rcases hend with ⟨r, rfl, hd, h, rfl⟩ | ⟨rfl, hle, rfl⟩
  · exact ⟨_, serve_eq h _ (farClear_restricted hd hx), opened_frame (State.deliver_rse _ _ _ _)
      ((openDest_sameBut s d).deliver (by simp) r _ _) (deliver_pct_congr (openDest_pct d s) r _ _)⟩
  · exact ⟨_, exec_restrictionEnd_of_due hx hle, opened_frame rfl (openDest_sameBut s d) (openDest_pct d s)⟩

end Sys2Proof.Machine
end

section
/-! SUPPORT. A notice that is offered to a port (R178 to R180). -/

namespace Sys2Proof.Machine

open Sys2Proof

section Offers

variable {n : Notice} {q : Port}

theorem offerNotice_of_closed (h : q.link = .down ∨ q.role = .off ∨ q.mask.getLsbD (noticeCategory n.body) = false) :
    offerNotice n q = q := by
  unfold offerNotice
  split
  · rfl
  · rename_i hopen
    have hmasked := (or_assoc.2 h).resolve_left hopen
    exact if_pos (by rw [maskAdmits, hmasked]; rfl)

/-- An UP port of a role whose mask admits the category takes the notice, or latches its loss (R178, R179). -/
theorem offerNotice_of_open (hup : q.link = .up) (hrole : q.role ≠ .off)
    (hmask : q.mask.getLsbD (noticeCategory n.body) = true) :
    offerNotice n q = if q.notices.length < 32 then { q with notices := q.notices ++ [n], attention := true }
      else { q with noticeLost := true } := by
  have hopen : ¬ (q.link = .down ∨ q.role = .off) := not_or.2 ⟨by rw [hup]; decide, hrole⟩
  have hattended : attended { q with notices := q.notices ++ [n] } =
      { q with notices := q.notices ++ [n], attention := true } := by
    simp [attended, hup]
  have hadmits : ¬ (!maskAdmits q n.body) = true := by rw [maskAdmits, hmask]; decide
  rw [offerNotice, if_neg hopen, if_neg hadmits, hattended]
  rfl

theorem offerNotice_offered (b : NoticeBody) (stamp : Nat) (q : Port) :
    q.Offered b (noticeCategory b) stamp (offerNotice ⟨b, stamp⟩ q) := by
  refine ⟨fun hclosed => offerNotice_of_closed hclosed, fun hup hrole hmask => ?_⟩
  rw [offerNotice_of_open hup hrole hmask]
  exact ⟨fun hroom => if_pos hroom, fun hfull => if_neg (Nat.not_lt.2 hfull)⟩

end Offers

/-- Settles O12: each raise is an `offerNotice` of the named port or of all, and so is the end of a restriction. -/
theorem noticesReachTheirPorts : Obligations.NoticesReachTheirPorts := by
  refine ⟨fun b s bit hbit => ?_, fun d s x hx hle => ⟨_, exec_restrictionEnd_of_due hx hle, fun p => ?_⟩⟩
  · obtain rfl : bit = noticeCategory b := by cases b <;> exact hbit
    refine ⟨raiseAll_sameBut s b, fun p => ?_, fun p => ⟨?_, fun p' hne => ?_, raiseTo_sameBut s p b⟩⟩
    · rw [State.raiseAll_port]
      exact offerNotice_offered b _ _
    · rw [State.raiseTo_port, if_pos rfl]
      exact offerNotice_offered b _ _
    · rw [State.raiseTo_port, if_neg hne]
  · rw [openDest_port]
    exact offerNotice_offered _ _ _

end Sys2Proof.Machine
end

section
/-! SUPPORT. The tick of the clocks (R146, R147, R149), what holds it back (log entry 5), and SET_TIME (R150). -/

namespace Sys2Proof.Machine

open Sys2Proof

/-! ### What holds a tick back -/

/-- In a canonical table, some entry satisfies what the default does not exactly where some number reads so. -/
theorem Table.any_iff_exists_get {α : Type} [DecidableEq α] {d : α} {last : Nat} {t : Table α}
    (ht : Table.wf d last t = true) {p : α → Bool} (hd : p d = false) :
    t.any (fun e => p e.2) = true ↔ ∃ k, p (Table.get d t k) = true := by
  rw [List.any_eq_true]
  constructor
  · rintro ⟨e, he, hp⟩
    refine ⟨e.1, ?_⟩
    rwa [Table.get_of_mem d t ((Table.wf_iff _ _ _).1 ht).1 e.1 e.2 he]
  · rintro ⟨k, hp⟩
    rcases Table.get_mem_or_default d t k with hget | hmem
    · rw [hget, hd] at hp
      cases hp
    · exact ⟨_, hmem, hp⟩

section Outstanding

variable {s : State} {q : Port} {now : Nat} {x : CallRecord}

theorem guardDue_iff : guardDue now x = true ↔ ∃ d, x.deadline = some d ∧ d ≤ now := by
  simp only [guardDue, Option.any_eq_true, decide_eq_true_eq]

theorem linkUpDue_iff : linkUpDue now q = true ↔
    q.role ≠ .off ∧ q.link = .down ∧ q.line = .good ∧ q.goodSince + 100 ≤ now := by
  simp only [linkUpDue, Bool.and_eq_true, decide_eq_true_eq, and_assoc]
  rfl

theorem engineLoad_eq_zero_iff : q.engineLoad = 0 ↔ engineServes q = false := by
  refine ⟨fun h => ?_, engineLoad_of_not_serves⟩
  rw [Port.engineLoad, Nat.add_eq_zero_iff, List.countP_eq_zero] at h
  obtain ⟨hhead, hdetached⟩ := h
  rw [engineServes, Bool.or_eq_false_iff, List.any_eq_false]
  exact ⟨by simpa using hhead, hdetached⟩

/-- No guard deadline has been reached, over the listed records or over every index. -/
theorem calls_not_due_iff (ht : s.TablesInv) : s.crt.calls.any (fun e => e.2.any (guardDue s.now)) = false ↔
    ∀ i x d, s.call i = some x → x.deadline = some d → s.now < d := by
  rw [← Bool.not_eq_true, Table.any_iff_exists_get ht.calls (p := Option.any (guardDue s.now)) rfl, not_exists]
  refine forall_congr' fun i => ?_
  change ¬ (s.call i).any _ = true ↔ _
  rw [Option.any_eq_true]
  constructor
  · intro h x d hx hd
    exact Nat.not_le.1 fun hle => h ⟨x, hx, guardDue_iff.2 ⟨d, hd, hle⟩⟩
  · rintro h ⟨x, hx, hdue⟩
    obtain ⟨d, hd, hle⟩ := guardDue_iff.1 hdue
    exact Nat.not_lt.2 hle (h x d hx hd)

/-- No restriction's end has been reached, over the listed destinations or over every number. -/
theorem dests_not_due_iff (ht : s.TablesInv) : s.rse.dests.any (fun e => endDue s.now e.2) = false ↔
    ∀ n x, (s.dest n).restriction = some x → s.now < x.endTime := by
  rw [← Bool.not_eq_true, Table.any_iff_exists_get ht.dests (p := endDue s.now) rfl, not_exists]
  refine forall_congr' fun n => ?_
  change ¬ endDue s.now (s.dest n) = true ↔ _
  rw [endDue_iff]
  constructor
  · intro h x hx
    exact Nat.not_le.1 fun hle => h ⟨x, hx, hle⟩
  · rintro h ⟨x, hx, hle⟩
    exact Nat.not_lt.2 hle (h x hx)

theorem linkUp_not_outstanding_iff : linkUpOutstanding s = false ↔
    ∀ p, (s.port p).role ≠ .off → (s.port p).link = .down → (s.port p).line = .good →
      s.now < (s.port p).goodSince + 100 := by
  have hall : ∀ p, p ∈ allPorts := fun p => by cases p <;> decide
  simp only [linkUpOutstanding, List.any_eq_false, linkUpDue_iff, not_and, Nat.not_le]
  exact ⟨fun h p => h p (hall p), fun h p _ => h p⟩

/-- When a tick may be taken: no timed event and no link's going UP is outstanding, and RSE serves nothing (log entry 5). -/
theorem mayTick_iff (ht : s.TablesInv) : mayTick s = true ↔
    (∀ i x d, s.call i = some x → x.deadline = some d → s.now < d)
    ∧ (∀ n x, (s.dest n).restriction = some x → s.now < x.endTime)
    ∧ s.now < s.cmn.nextPeriodEnd ∧ s.sts.closeDue = false
    ∧ (∀ p, (s.port p).role ≠ .off → (s.port p).link = .down → (s.port p).line = .good →
      s.now < (s.port p).goodSince + 100)
    ∧ ∀ p, (s.port p).engineLoad = 0 := by
  simp only [mayTick, eventOutstanding, Bool.and_eq_true, Bool.not_eq_true', Bool.or_eq_false_iff, decide_eq_false_iff_not,
    Nat.not_le, calls_not_due_iff ht, dests_not_due_iff ht, linkUp_not_outstanding_iff, engineFree_iff,
    engineLoad_eq_zero_iff, and_assoc]

end Outstanding

/-! ### The clocks -/

section Clocks

variable {s : State} {t : TimeBase}

/-- The running time after a tick, which stands at its largest value (R146). -/
theorem advance_running (t : TimeBase) :
    (advance t).running = if t.running < 2 ^ 48 - 1 then t.running + 1 else t.running := by
  unfold advance
  simp only
  split <;> rfl

theorem entersSecond_iff : entersSecond t = true ↔ 999 ≤ t.milli := decide_eq_true_iff

/-- A tick within a second (R147). -/
theorem advance_within (h : t.milli < 999) :
    advance t = { t with running := (advance t).running, milli := t.milli + 1 } := by
  have hin : ¬ entersSecond t = true := fun he => Nat.not_lt.2 (entersSecond_iff.1 he) h
  simp only [advance, if_neg hin]

/-- A tick that enters a second, and with the last one a day (R147). -/
theorem advance_enters (h : 999 ≤ t.milli) :
    advance t = ⟨(advance t).running, if t.second < 86399 then t.day else (t.day + 1) % 65536, nextSecond t.second, 0⟩ := by
  simp only [advance, if_pos (entersSecond_iff.2 h)]
  rfl

theorem nextSecond_of_lt {n : Nat} (h : n < 86399) : nextSecond n = n + 1 := if_pos h
theorem nextSecond_last : nextSecond 86399 = 0 := rfl

/-- Day 0 follows day 65535 (R147). -/
theorem nextDay_eq {day : Nat} (h : day ≤ 65535) : (day + 1) % 65536 = if day = 65535 then 0 else day + 1 := by
  split <;> omega

theorem tick_closeDue_within (h : s.tmb.milli < 999) : (tick s).sts.closeDue = false := by
  have hin : entersSecond s.tmb = false := decide_eq_false (Nat.not_le.2 h)
  show (entersSecond s.tmb && _) = false
  rw [hin, Bool.false_and]

/-- An automatic close falls due when the tick enters the second that the setting names (R141). -/
theorem tick_closeDue_enters (h : 999 ≤ s.tmb.milli) :
    (tick s).sts.closeDue = true ↔ s.sts.autoClose = some (tick s).tmb.second := by
  have hsecond : (tick s).tmb.second = nextSecond s.tmb.second := congrArg TimeBase.second (advance_enters h)
  show (entersSecond s.tmb && decide _) = true ↔ _
  rw [entersSecond_iff.2 h, Bool.true_and, decide_eq_true_eq, hsecond]

end Clocks

/-! ### SET_TIME -/

section SetTime

variable {s : State} {d n m : Nat}

theorem setTime_done (hn : n ≤ 86399) (hm : m ≤ 999) :
    setTime d n m s = (⟨.done, beBytes 2 d ++ beBytes 3 n ++ beBytes 2 m ++ beBytes 6 s.tmb.running⟩,
      { s with tmb := ⟨s.tmb.running, d, n, m⟩ }) :=
  if_neg (not_or.2 ⟨Nat.not_lt.2 hn, Nat.not_lt.2 hm⟩)

theorem setTime_badValue (h : 86399 < n ∨ 999 < m) : setTime d n m s = (⟨.badValue, []⟩, s) := if_pos h

end SetTime

/-- Settles O52: `mayTick` is the quiet of the statement over canonical tables, and a tick either stays within a second or enters the next. -/
theorem clocksAdvanceAndAreSet : Obligations.ClocksAdvanceAndAreSet := by
  refine ⟨fun s ht => ⟨fun hquiet hmilli hsecond hday => ?_, fun hnot => ?_⟩,
    fun r d n m s h => ⟨fun hn hm => ?_, fun hbad => serve_eq h _ (setTime_badValue hbad)⟩⟩
  · refine ⟨tick s, if_pos ((mayTick_iff ht).2 hquiet), advance_running s.tmb, fun hin => ?_, fun hlast => ?_, rfl,
      tick_sameBut s⟩
    · have htmb : (tick s).tmb = _ := advance_within hin
      rw [htmb]
      exact ⟨rfl, rfl, rfl, tick_closeDue_within hin⟩
    · refine ⟨congrArg TimeBase.milli (advance_enters hlast.ge), fun hlt => ?_, fun heq => ?_,
        tick_closeDue_enters hlast.ge⟩
      all_goals
        have htmb : (tick s).tmb = _ := advance_enters hlast.ge
        rw [htmb]
      · exact ⟨nextSecond_of_lt hlt, if_pos hlt⟩
      · exact ⟨by rw [heq, nextSecond_last], (if_neg heq.ge.not_gt).trans (nextDay_eq hday)⟩
  · exact if_neg fun hmay => hnot ((mayTick_iff ht).1 hmay)
  · exact ⟨_, serve_eq h _ (setTime_done hn hm), State.deliver_tmb _ _ _ _,
      ((sameBut_tmb s _).mono (by simp)).deliver (by simp) r _ _, deliver_pct_congr (by rfl) r _ _⟩

end Sys2Proof.Machine
end

section
/-! SUPPORT. What a period end makes of one group: its index (R89), its level (R90), and its record (R87, R88, R91). -/

namespace Sys2Proof.Machine

open Sys2Proof

/-! ### The index (R89) -/

/-- How far the index moves over a distance `d` with smoothing shift `k`. -/
def indexMove (d k : Nat) : Nat := if d = 0 then 0 else max (d / 2 ^ k) 1

theorem indexMove_le (d k : Nat) : indexMove d k ≤ d := by
  have hdiv : d / 2 ^ k ≤ d := Nat.div_le_self d _
  unfold indexMove
  split <;> omega

theorem indexMove_zero (d : Nat) : indexMove d 0 = d := by
  rw [indexMove, pow_zero, Nat.div_one]
  split <;> omega

theorem indexStep_natCast (d k : Nat) : indexStep (d : Int) k = (indexMove d k : Int) := by
  have hdiv : (d : Int).tdiv (2 ^ k) = ((d / 2 ^ k : Nat) : Int) := by
    rw [Int.ofNat_tdiv]
    norm_cast
  unfold indexStep indexMove
  simp only [hdiv]
  by_cases hd : d = 0
  · simp [hd]
  · by_cases hq : d / 2 ^ k = 0
    · have hsign : (d : Int).sign = 1 := Int.sign_eq_one_of_pos (by omega)
      simp only [hq, hsign]
      simp [hd]
    · rw [if_neg fun h => hq (Int.natCast_eq_zero.1 h.2), if_neg hd, Nat.max_eq_left (Nat.pos_of_ne_zero hq)]

/-- The step is truncated toward zero, so it is the same in both directions. -/
theorem indexStep_neg (d : Int) (k : Nat) : indexStep (-d) k = -indexStep d k := by
  simp only [indexStep, Int.neg_tdiv, Int.sign_neg, ne_eq, neg_eq_zero]
  split <;> rfl

theorem newIndex_of_le {e oc : Nat} (h : e ≤ oc) (k : Nat) : newIndex e oc k = e + indexMove (oc - e) k := by
  rw [newIndex, ← Int.ofNat_sub h, indexStep_natCast]
  omega

theorem newIndex_of_ge {e oc : Nat} (h : oc ≤ e) (k : Nat) : newIndex e oc k = e - indexMove (e - oc) k := by
  have hle := indexMove_le (e - oc) k
  rw [newIndex, ← Int.neg_sub, ← Int.ofNat_sub h, indexStep_neg, indexStep_natCast]
  omega

/-- The index never passes its sample. -/
theorem newIndex_between (e oc k : Nat) : min e oc ≤ newIndex e oc k ∧ newIndex e oc k ≤ max e oc := by
  rcases Nat.le_total e oc with h | h
  · have := indexMove_le (oc - e) k
    rw [newIndex_of_le h]
    omega
  · have := indexMove_le (e - oc) k
    rw [newIndex_of_ge h]
    omega

theorem newIndex_shift_zero (e oc : Nat) : newIndex e oc 0 = oc := by
  rcases Nat.le_total e oc with h | h
  · rw [newIndex_of_le h, indexMove_zero]
    omega
  · rw [newIndex_of_ge h, indexMove_zero]
    omega

theorem newIndex_le {e oc m : Nat} (he : e ≤ m) (hoc : oc ≤ m) (k : Nat) : newIndex e oc k ≤ m :=
  (newIndex_between e oc k).2.trans (max_le he hoc)

/-- Settles O42: the step is `indexMove` of the distance, in the direction of the sample, and never more than the distance. -/
theorem indexMovesTowardsTheSample : Obligations.IndexMovesTowardsTheSample := by
  intro e oc k he hoc _
  refine ⟨fun h => ?_, fun h => ?_, newIndex_le he hoc k, (newIndex_between e oc k).1, (newIndex_between e oc k).2,
    fun hk => hk ▸ newIndex_shift_zero e oc⟩
  · rw [newIndex_of_le h, indexMove, if_congr (show oc - e = 0 ↔ oc = e by omega) rfl rfl]
  · rw [newIndex_of_ge h, indexMove, if_congr (show e - oc = 0 ↔ oc = e by omega) rfl rfl]

/-! ### The level (R90) -/

theorem countP_thresholds (p : Profile) (f : Nat → Bool) : (thresholds p).countP f =
    (if f p.u1 then 1 else 0) + (if f p.u2 then 1 else 0) + (if f p.u3 then 1 else 0) := by
  simp only [thresholds, List.countP_cons, List.countP_nil, Nat.zero_add]
  omega

theorem levelUp_eq (p : Profile) (g : Nat) : levelUp p g =
    (if p.u1 ≤ g then 1 else 0) + (if p.u2 ≤ g then 1 else 0) + (if p.u3 ≤ g then 1 else 0) := by
  simp only [levelUp, countP_thresholds, decide_eq_true_eq]

theorem levelDown_eq (p : Profile) (g : Nat) : levelDown p g =
    (if p.u1 - p.hysteresis ≤ g then 1 else 0) + (if p.u2 - p.hysteresis ≤ g then 1 else 0)
      + (if p.u3 - p.hysteresis ≤ g then 1 else 0) := by
  simp only [levelDown, countP_thresholds, decide_eq_true_eq]

theorem levelUp_le (p : Profile) (g : Nat) : levelUp p g ≤ 3 := List.countP_le_length
theorem levelDown_le (p : Profile) (g : Nat) : levelDown p g ≤ 3 := List.countP_le_length

theorem newLevel_le (p : Profile) (l g : Nat) : newLevel p l g ≤ 3 :=
  max_le (levelUp_le p g) ((min_le_right _ _).trans (levelDown_le p g))

theorem thresholdsValid_iff (p : Profile) :
    thresholdsValid p = true ↔ 1 ≤ p.u1 ∧ p.u1 < p.u2 ∧ p.u2 < p.u3 ∧ p.u3 ≤ 4096 := by
  simp only [thresholdsValid, Bool.and_eq_true, decide_eq_true_eq, and_assoc]
  exact Iff.rfl

/-- A measure that fills the scale reaches every threshold of a valid profile. -/
theorem newLevel_of_full {p : Profile} (hp : thresholdsValid p = true) (l : Nat) {g : Nat} (hg : 4096 ≤ g) :
    newLevel p l g = 3 := by
  obtain ⟨-, h12, h23, h3⟩ := (thresholdsValid_iff p).1 hp
  have hup : levelUp p g = 3 := by
    rw [levelUp_eq, if_pos (by omega), if_pos (by omega), if_pos (by omega)]
  exact Nat.le_antisymm (newLevel_le p l g) (hup ▸ le_max_left _ _)

/-- Where every examination of the period was refused the refusal fraction fills the scale (R88). -/
theorem refusalFraction_self {n : Nat} (h : 0 < n) : refusalFraction n n = 4096 := by
  rw [refusalFraction, if_neg (by omega), Nat.mul_div_cancel_left _ h, Config.full]

/-! ### The record (R87, R91) -/

theorem measured_level_of_refused {p : Profile} (hp : thresholdsValid p = true) (busy count : Nat)
    {r : CongestionRecord} (hr : r.refusals = r.attempts) (hn : 0 < r.attempts) :
    (measured p busy count r).level = 3 := by
  refine newLevel_of_full hp _ ?_
  rw [hr, refusalFraction_self hn]
  exact le_max_right _ _

/-- Settles O43: the level as R90 counts it, and the refusal fraction of a period without an admission. -/
theorem levelFollowsTheThresholds : Obligations.LevelFollowsTheThresholds := by
  intro p l g _
  refine ⟨by rw [newLevel, levelUp_eq, levelDown_eq], newLevel_le p l g, fun n busy count r hn hp ha hr => ?_⟩
  have hlevel := measured_level_of_refused hp busy count (hr.trans ha.symm) (ha ▸ hn)
  exact ⟨hlevel, congrArg (max r.peak) hlevel⟩

/-- The occupancy sample of a group no more of whose circuits are held than it has (R88). -/
theorem occupancy_le {busy count : Nat} (h : busy ≤ count) : occupancy busy count ≤ Config.full :=
  Nat.div_le_of_le_mul (Nat.mul_le_mul_right _ h)

/-- A period end keeps a record in its ranges. -/
theorem measured_inv (p : Profile) {busy count : Nat} (hb : busy ≤ count) {r : CongestionRecord} (hr : r.Inv) :
    (measured p busy count r).Inv where
  index := newIndex_le hr.index (occupancy_le hb) p.shift
  level := le_max_right _ _
  peak := max_le hr.peak (newLevel_le _ _ _)
  refusals := Nat.le_refl 0
  attempts := Nat.zero_le _

end Sys2Proof.Machine
end

section
/-! SUPPORT. The period end (R87, R91, R92): every listed group is measured once, in ascending order, and then the staged copies take force. -/

namespace Sys2Proof.Machine

open Sys2Proof

/-! ### Numbers that a table lists -/

/-- A canonical table met entry by entry meets the same numbers as the whole range does, in the same order. -/
theorem Table.filterMap_eq_range {α β : Type} [DecidableEq α] {d : α} {last : Nat} {t : Table α}
    (h : Table.wf d last t = true) (f : Nat → Option β) (hf : ∀ k, Table.get d t k = d → f k = none) :
    (t.filterMap fun e => f e.1) = (List.range (last + 1)).filterMap f := by
  obtain ⟨hpair, hent⟩ := (Table.wf_iff d last t).1 h
  have hlisted : ∀ k, k ∈ t.map (·.1) ↔ Table.get d t k ≠ d := fun k => by
    rw [List.mem_map]
    constructor
    · rintro ⟨e, he, rfl⟩
      rw [Table.get_of_mem d t hpair e.1 e.2 he]
      exact (hent e he).2
    · exact fun hk => ⟨_, (Table.get_mem_or_default d t k).resolve_left hk, rfl⟩
  have hkeys : t.map (·.1) = (List.range (last + 1)).filter fun k => decide (Table.get d t k ≠ d) := by
    have hl : (t.map (·.1)).Pairwise (· < ·) := List.pairwise_map.2 hpair
    have hr := (List.pairwise_lt_range (n := last + 1)).filter fun k => decide (Table.get d t k ≠ d)
    refine ((List.perm_ext_iff_of_nodup (hl.imp Nat.ne_of_lt) (hr.imp Nat.ne_of_lt)).2
      fun k => ?_).eq_of_pairwise (fun a b _ _ h1 h2 => absurd h1 (Nat.lt_asymm h2)) hl hr
    rw [hlisted, List.mem_filter, List.mem_range, decide_eq_true_eq]
    exact ⟨fun hk => ⟨Nat.lt_succ_of_le (Table.le_of_get_ne h hk), hk⟩, And.right⟩
  have hmap : (t.filterMap fun e => f e.1) = (t.map (·.1)).filterMap f := (List.filterMap_map ..).symm
  rw [hmap, hkeys, List.filterMap_filter]
  refine List.filterMap_congr fun k _ => ?_
  by_cases hk : Table.get d t k = d
  · rw [if_neg (by simpa using hk), hf k hk]
  · rw [if_pos (by simpa using hk)]

/-! ### One group (step 1 of R87) -/

/-- The record that a period end gives group number `g`, whose entry in the group table is `x`; an UNDEFINED group keeps its own. -/
def State.recordAfter (s : State) (g : Nat) (x : Option Group) : CongestionRecord :=
  match x with
  | some r => s.measuredRecord g r
  | none => s.congestion g

/-- The notice of a group's change of level (R91), none where the level stands. -/
def State.levelNotice (s : State) (g : Nat) (x : Option Group) : Option NoticeBody :=
  if (s.recordAfter g x).level = (s.congestion g).level then none
  else some (.levelChange g (s.congestion g).level (s.recordAfter g x).level)

/-- Two states alike in what a measurement of group `g` reads. -/
structure State.MeasuresAlike (s u : State) (g : Nat) : Prop where
  congestion : u.congestion g = s.congestion g
  profile : ∀ n, u.profile n = s.profile n

theorem State.MeasuresAlike.recordAfter {s u : State} {g : Nat} (h : s.MeasuresAlike u g) (x : Option Group) :
    u.recordAfter g x = s.recordAfter g x := by
  cases x with
  | none => exact h.congestion
  | some r => simp only [State.recordAfter, State.measuredRecord, h.congestion, h.profile]

theorem State.MeasuresAlike.levelNotice {s u : State} {g : Nat} (h : s.MeasuresAlike u g) (x : Option Group) :
    u.levelNotice g x = s.levelNotice g x := by
  simp only [State.levelNotice, h.recordAfter x, h.congestion]

section OneGroup

variable (s : State) (g : Nat) (x : Option Group)

theorem measureEntry_congestion (g' : Nat) :
    (measureEntry s (g, x)).congestion g' = if g' = g then s.recordAfter g x else s.congestion g' := by
  cases x with
  | none =>
    show s.congestion g' = if g' = g then s.congestion g else _
    split
    · rename_i h
      rw [h]
    · rfl
  | some r =>
    show (measureGroup g r s).congestion g' = _
    unfold measureGroup
    simp only
    split <;> simp [State.recordAfter]

/-- CMN keeps all but its records. -/
theorem measureEntry_cmn (e : Nat × Option Group) :
    (measureEntry s e).cmn = { s.cmn with records := (measureEntry s e).cmn.records } := by
  unfold measureEntry measureGroup
  simp only
  split
  · split <;> rfl
  · rfl

theorem measureEntry_tmb (e : Nat × Option Group) : (measureEntry s e).tmb = s.tmb :=
  (measureEntry_sameBut s e).tmb.resolve_left (by decide)

theorem measureEntry_pct :
    (measureEntry s (g, x)).pct = (s.raiseEach (s.levelNotice g x).toList).pct := by
  cases x with
  | none =>
    rw [State.levelNotice, if_pos (by rfl)]
    rfl
  | some r =>
    show (measureGroup g r s).pct = _
    unfold measureGroup State.levelNotice State.recordAfter
    simp only
    split
    · rfl
    · exact raiseAll_pct_congr (s := s) (by rfl) (by rfl) _

theorem measureEntry_profile (e : Nat × Option Group) (n : Nat) : (measureEntry s e).profile n = s.profile n := by
  rw [State.profile, measureEntry_cmn]
  rfl

/-- The measurement of one group leaves what the measurement of another reads. -/
theorem measureEntry_measuresAlike {g' : Nat} (h : g' ≠ g) : s.MeasuresAlike (measureEntry s (g, x)) g' :=
  ⟨by rw [measureEntry_congestion, if_neg h], measureEntry_profile s _⟩

end OneGroup

/-! ### Every group -/

/-- A list of groups in ascending order measured one after the other: each by its state before the first of them. -/
theorem measureEntries_congestion (l : Table (Option Group)) (hl : l.Pairwise fun a b => a.1 < b.1) (s : State)
    (g : Nat) : (l.foldl measureEntry s).congestion g = s.recordAfter g (Table.get none l g) := by
  induction l generalizing s with
  | nil => rfl
  | cons e l ih =>
    obtain ⟨j, x⟩ := e
    obtain ⟨hj, hl⟩ := List.pairwise_cons.1 hl
    rw [List.foldl_cons, ih hl, Table.get_cons]
    by_cases hg : g = j
    · subst hg
      have hnone : Table.get none l g = none := Table.get_eq_default _ _ _ fun e he => (hj e he).ne'
      rw [hnone, if_pos rfl]
      exact (measureEntry_congestion s g x g).trans (if_pos rfl)
    · rw [if_neg (Ne.symm hg)]
      exact (measureEntry_measuresAlike s j x hg).recordAfter _

theorem measureEntries_pct (l : Table (Option Group)) (hl : l.Pairwise fun a b => a.1 < b.1) (s : State) :
    (l.foldl measureEntry s).pct = (s.raiseEach (l.filterMap fun e => s.levelNotice e.1 e.2)).pct := by
  induction l generalizing s with
  | nil => rfl
  | cons e l ih =>
    obtain ⟨j, x⟩ := e
    obtain ⟨hj, hl⟩ := List.pairwise_cons.1 hl
    have hrest : (l.filterMap fun e => (measureEntry s (j, x)).levelNotice e.1 e.2)
        = l.filterMap fun e => s.levelNotice e.1 e.2 :=
      List.filterMap_congr fun e he => (measureEntry_measuresAlike s j x (hj e he).ne').levelNotice e.2
    have hsplit : (((j, x) :: l).filterMap fun e => s.levelNotice e.1 e.2)
        = (s.levelNotice j x).toList ++ l.filterMap fun e => s.levelNotice e.1 e.2 := by
      rw [List.filterMap_cons]
      cases s.levelNotice j x <;> rfl
    rw [List.foldl_cons, ih hl, hrest, hsplit, raiseEach_append]
    exact raiseEach_pct_congr (measureEntry_pct s j x)
      ((measureEntry_tmb s _).trans (raiseEach_tmb s _).symm) _

theorem measureGroups_cmn (s : State) :
    (measureGroups s).cmn = { s.cmn with records := (measureGroups s).cmn.records } :=
  List.foldlRecOn (motive := fun u : State => u.cmn = { s.cmn with records := u.cmn.records }) s.cpl.groups
    measureEntry rfl fun u hu e _ => by rw [measureEntry_cmn, hu]

section EndPeriod

variable {s : State} (ht : s.TablesInv)
include ht

theorem endPeriod_congestion (g : Nat) : (endPeriod s).congestion g = s.recordAfter g (s.group g) :=
  measureEntries_congestion s.cpl.groups ((Table.wf_iff _ _ _).1 ht.groups).1 s g

/-- LEVEL_CHANGE is raised for the groups whose level changes, in ascending group number (R91). -/
theorem endPeriod_pct :
    (endPeriod s).pct = (s.raiseEach ((List.range 256).filterMap fun g => s.levelNotice g (s.group g))).pct := by
  have hentries : (s.cpl.groups.filterMap fun e => s.levelNotice e.1 e.2)
      = s.cpl.groups.filterMap fun e => s.levelNotice e.1 (s.group e.1) :=
    List.filterMap_congr fun e he => by rw [State.group, get_of_mem_of_wf _ _ ht.groups e.1 e.2 he]
  have hrange := Table.filterMap_eq_range ht.groups (fun g => s.levelNotice g (s.group g)) fun g hg => by
    rw [State.group, hg, State.levelNotice]
    exact if_pos rfl
  rw [← show Config.lastGroup + 1 = 256 from rfl, ← hrange, ← hentries]
  exact measureEntries_pct s.cpl.groups ((Table.wf_iff _ _ _).1 ht.groups).1 s

end EndPeriod

/-- The staged copies take force, and the next period end is one period of the staged code on (R86, R92). -/
theorem endPeriod_cmn (s : State) : (endPeriod s).cmn =
    { s.cmn with
      records := (endPeriod s).cmn.records, inForce := s.cmn.staged, inForcePeriod := s.cmn.stagedPeriod
      nextPeriodEnd := s.cmn.nextPeriodEnd + periodMs s.cmn.stagedPeriod } := by
  show takeStaged (measureGroups s).cmn = _
  rw [measureGroups_cmn]
  rfl

/-- The notice of a group's change of level, as the record after the period end shows it. -/
theorem levelNotice_eq (s : State) (g : Nat) : s.levelNotice g (s.group g) =
    if (s.group g).isSome ∧ (s.recordAfter g (s.group g)).level ≠ (s.congestion g).level then
      some (.levelChange g (s.congestion g).level (s.recordAfter g (s.group g)).level) else none := by
  unfold State.levelNotice
  cases s.group g with
  | none => simp [State.recordAfter]
  | some r => simp [ite_not]

/-- Settles O41: the measurement of each group reads the state before the period end, and the staged copies are taken behind it. -/
theorem periodEndMeasuresEveryGroup : Obligations.PeriodEndMeasuresEveryGroup := by
  refine ⟨fun s hdue ht => ?_, fun s hlt => if_neg fun hdue => Nat.not_le.2 hlt (of_decide_eq_true hdue)⟩
  have hcong := endPeriod_congestion ht
  have hcmn := endPeriod_cmn s
  refine ⟨endPeriod s, if_pos (decide_eq_true hdue), fun g x hx => ⟨_, _, _, _, rfl, rfl, rfl, rfl, ?_⟩,
    fun g hg => ?_, fun n => ⟨?_, ?_⟩, ?_, ?_, fun ms hms => ?_, ?_, endPeriod_sameBut s⟩
  · rw [hcong, hx]
    rfl
  · rw [hcong, hg]
    rfl
  · rw [State.profile, hcmn]
    rfl
  · rw [State.stagedProfile, hcmn]
    rfl
  · rw [hcmn]
  · rw [hcmn]
  · rw [hcmn]
    simp only [List.mem_cons, Prod.mk.injEq, List.not_mem_nil, or_false] at hms
    rcases hms with ⟨hc, rfl⟩ | ⟨hc, rfl⟩ | ⟨hc, rfl⟩ | ⟨hc, rfl⟩ <;> simp only [hc, periodMs]
  · simp only [hcong, ← levelNotice_eq]
    exact endPeriod_pct ht

end Sys2Proof.Machine
end

section
/-! SUPPORT. The requests on congestion: WRITE_PROFILE and SET_PERIOD (R93, R94), and the group form of READ_CONGESTION (R96). -/

namespace Sys2Proof.Machine

open Sys2Proof

/-! ### WRITE_PROFILE -/

section WriteProfile

variable {s : State} {n : Nat} {p : Profile}

theorem clampProfile_eq (p : Profile) : clampProfile p =
    { p with hysteresis := if 1023 < p.hysteresis then 1023 else p.hysteresis
             shift := if 4 < p.shift then 4 else p.shift } := by
  have hmin : ∀ a b : Nat, min a b = if b < a then b else a := fun a b => by
    split <;> omega
  rw [clampProfile, hmin, hmin]

theorem clampProfile_ne_iff (p : Profile) : clampProfile p ≠ p ↔ 1023 < p.hysteresis ∨ 4 < p.shift := by
  obtain ⟨u1, u2, u3, h, k⟩ := p
  simp only [clampProfile, ne_eq, Profile.mk.injEq, true_and]
  omega

theorem writeProfile_badValue (h : ¬ (n ≤ 7 ∧ thresholdsValid p = true)) :
    writeProfile n p s = (⟨.badValue, []⟩, s) := by
  refine if_pos ?_
  rw [Bool.not_eq_true', ← Bool.not_eq_true, ← Nat.not_le]
  exact not_and_or.1 h

theorem writeProfile_done (hn : n ≤ 7) (hp : thresholdsValid p = true) :
    writeProfile n p s = (⟨if 1023 < p.hysteresis ∨ 4 < p.shift then .adjusted else .done, []⟩,
      { s with cmn := { s.cmn with staged := Table.set resetProfile s.cmn.staged n (clampProfile p) } }) := by
  have hok : ¬ (7 < n ∨ (!thresholdsValid p) = true) := by
    rw [hp]
    exact not_or.2 ⟨Nat.not_lt.2 hn, Bool.false_ne_true⟩
  have hresult : doneOr (decide (clampProfile p ≠ p))
      = if 1023 < p.hysteresis ∨ 4 < p.shift then .adjusted else .done := by
    simp only [doneOr, decide_eq_true_eq, clampProfile_ne_iff]
  rw [← hresult]
  exact if_neg hok

end WriteProfile

/-! ### SET_PERIOD -/

theorem setPeriod_badValue {s : State} {n : Nat} (h : 3 < n) : setPeriod n s = (⟨.badValue, []⟩, s) := if_pos h

theorem setPeriod_done {s : State} {n : Nat} (h : n ≤ 3) :
    setPeriod n s = (⟨.done, []⟩, { s with cmn := { s.cmn with stagedPeriod := n } }) := if_neg (Nat.not_lt.2 h)

/-! ### The group form of READ_CONGESTION -/

/-- A record with its latch set to its level (R96). -/
def CongestionRecord.unlatched (r : CongestionRecord) : CongestionRecord := { r with peak := r.level }

@[simp] theorem CongestionRecord.unlatched_unlatched (r : CongestionRecord) : r.unlatched.unlatched = r.unlatched := rfl

section Latches

variable (s : State)

theorem resetLatch_congestion (g g' : Nat) : (resetLatch s g).congestion g' =
    if g' = g ∧ (s.group g').isSome = true then (s.congestion g').unlatched else s.congestion g' := by
  unfold resetLatch
  split
  · rename_i hg
    rw [if_neg]
    rintro ⟨rfl, h⟩
    rw [hg] at h
    cases h
  · rename_i hg
    rw [State.setCongestion_congestion]
    by_cases h : g' = g
    · subst h
      rw [if_pos rfl, if_pos ⟨rfl, by rw [hg]; rfl⟩]
      rfl
    · rw [if_neg h, if_neg fun hc => h hc.1]

theorem resetLatch_group (g g' : Nat) : (resetLatch s g).group g' = s.group g' := by
  unfold resetLatch
  split <;> rfl

/-- CMN keeps all but its records. -/
theorem resetLatch_cmn (g : Nat) : (resetLatch s g).cmn = { s.cmn with records := (resetLatch s g).cmn.records } := by
  unfold resetLatch
  split <;> rfl

theorem resetLatches_congestion (l : List Nat) (g : Nat) : (l.foldl resetLatch s).congestion g =
    if g ∈ l ∧ (s.group g).isSome = true then (s.congestion g).unlatched else s.congestion g := by
  induction l generalizing s with
  | nil => simp
  | cons a l ih =>
    rw [List.foldl_cons, ih, resetLatch_group, resetLatch_congestion]
    by_cases hg : g = a
    · subst hg
      cases (s.group g).isSome <;> simp
    · simp [hg]

theorem resetLatches_cmn (l : List Nat) :
    (l.foldl resetLatch s).cmn = { s.cmn with records := (l.foldl resetLatch s).cmn.records } :=
  List.foldlRecOn (motive := fun u : State => u.cmn = { s.cmn with records := u.cmn.records }) l resetLatch rfl
    fun u hu g _ => by rw [resetLatch_cmn, hu]

theorem reportedGroups_eq {first n m : Nat} (hm : m = if n = 0 then 1 else if 16 < n then 16 else n) :
    reportedGroups first n = List.range' first (min m (256 - first)) := by
  rw [reportedGroups, clamp_one 16 n (by decide), ← hm]
  exact take_range' _ _ _

theorem readCongestion_done {first n m : Nat} (hf : first ≤ 255)
    (hm : m = if n = 0 then 1 else if 16 < n then 16 else n) :
    readCongestion first n s = (⟨if m = n then .done else .adjusted,
      listBytes (congestionEntry s) (List.range' first (min m (256 - first)))⟩,
      (List.range' first (min m (256 - first))).foldl resetLatch s) := by
  have hf' : ¬ Config.lastGroup < first := Nat.not_lt.2 hf
  rw [readCongestion, if_neg hf', reportedGroups_eq hm, doneOr_ne, clamp_one 16 n (by decide), ← hm]

end Latches

/-- Settles O44: each request's checks, and the one field that it writes. -/
theorem stagedCopiesAndLatches : Obligations.StagedCopiesAndLatches := by
  refine ⟨fun r n p s h => ?_, fun r n s h => ⟨fun hn => ?_, fun hn => serve_eq h _ (setPeriod_badValue hn)⟩,
    fun r first n s h hf => ?_⟩
  · rw [← thresholdsValid_iff]
    refine ⟨fun ⟨hn, hp⟩ => ⟨_, serve_eq h _ (writeProfile_done hn hp), fun m => ?_, by rw [State.deliver_cmn],
      ((sameBut_cmn s _).mono (by simp)).deliver (by simp) r _ _, deliver_pct_congr (by rfl) r _ _⟩,
      fun hbad => serve_eq h _ (writeProfile_badValue hbad)⟩
    rw [State.deliver_stagedProfile, ← clampProfile_eq]
    exact Table.get_set _ _ _ _ _
  · exact ⟨_, serve_eq h _ (setPeriod_done hn), State.deliver_cmn _ _ _ _,
      ((sameBut_cmn s _).mono (by simp)).deliver (by simp) r _ _, deliver_pct_congr (by rfl) r _ _⟩
  · have hsame := foldl_sameBut _ _ resetLatch_sameBut
    refine ⟨_, _, serve_eq h _ (readCongestion_done s hf rfl), rfl, fun g => ?_, ?_,
      ((hsame _ s).mono (by simp)).deliver (by simp) r _ _,
      deliver_pct_congr ((hsame _ s).pct.resolve_left (by decide)) r _ _⟩
    · rw [State.deliver_congestion, resetLatches_congestion]
      refine if_congr ?_ rfl rfl
      rw [List.mem_range'_1, ← and_assoc, ← and_assoc]
      refine and_congr_left' ?_
      omega
    · rw [State.deliver_cmn]
      exact resetLatches_cmn s _

end Sys2Proof.Machine
end

section
/-! SUPPORT. Every command keeps the congestion records, the profiles and the period codes in range (R84, R85, R89 to R92). -/

namespace Sys2Proof.Machine

open Sys2Proof

/-! ### Which groups are defined -/

/-- Every group that is defined in one of the two states is defined in the other, with the same range. -/
def State.KeepsRanges (s t : State) : Prop := ∀ g, t.rangeOf g = s.rangeOf g

section Ranges

variable {s t u : State} {bs : List Block}

theorem State.KeepsRanges.refl (s : State) : s.KeepsRanges s := fun _ => rfl

theorem State.KeepsRanges.trans (h : s.KeepsRanges t) (h' : t.KeepsRanges u) : s.KeepsRanges u :=
  fun g => (h' g).trans (h g)

/-- The ranges are CPL's. -/
theorem State.SameBut.keepsRanges (h : s.SameBut bs t) (hb : Block.cpl ∉ bs) : s.KeepsRanges t := fun g =>
  rangeOf_congr (by rw [State.group, State.group, h.cpl.resolve_left hb])

theorem State.KeepsRanges.group_eq_none (h : s.KeepsRanges t) {g : Nat} (hg : t.group g = none) :
    s.group g = none := by
  have hr := h g
  rw [State.rangeOf, State.rangeOf, hg] at hr
  exact Option.map_eq_none_iff.1 hr.symm

variable (s)

theorem setGroup_keepsRanges {g : Nat} {x y : Group} (hx : s.group g = some x)
    (hy : (y.first, y.count, y.carrier) = (x.first, x.count, x.carrier)) : s.KeepsRanges (s.setGroup g (some y)) :=
  fun g' => by
    by_cases hg : g' = g
    · rw [State.rangeOf, State.rangeOf, State.setGroup_group, if_pos hg, hg, hx]
      exact congrArg some hy
    · exact rangeOf_congr ((State.setGroup_group s g _ g').trans (if_neg hg))

theorem setCircuit_keepsRanges (c : Nat) (v : Circuit) : s.KeepsRanges (s.setCircuit c v) := fun _ => rfl

theorem freeOutbound_keepsRanges (r : CallRecord) : s.KeepsRanges (freeOutbound r s) := by
  unfold freeOutbound
  split
  · exact freeCircuit_rangeOf _ _ s
  · exact .refl s

theorem freeInbound_keepsRanges (r : CallRecord) : s.KeepsRanges (freeInbound r s) := by
  unfold freeInbound
  split
  · exact freeCircuit_rangeOf _ _ s
  · exact .refl s

theorem freeCall_keepsRanges (i : Nat) (r : CallRecord) : s.KeepsRanges (freeCall i r s) :=
  ((freeOutbound_keepsRanges s r).trans (freeInbound_keepsRanges _ r)).trans
    ((freeRecord_sameBut _ i).keepsRanges (by decide))

theorem moveCircuit_keepsRanges (g c : Nat) (v : Circuit) (f : List Nat → List Nat) :
    s.KeepsRanges (moveCircuit g c v f s) := by
  unfold moveCircuit
  split
  · exact .refl s
  · rename_i hg
    exact (setCircuit_keepsRanges s c v).trans (setGroup_keepsRanges _ hg rfl)

/-! The requests on calls. -/

theorem confirmCall_keepsRanges (p : PortId) (i g : Nat) : s.KeepsRanges (confirmCall p i g s).2 := by
  unfold confirmCall
  split
  · exact .refl s
  split
  · unfold holdOutbound
    split <;> exact fun _ => rfl
  all_goals exact .refl s

theorem releaseRated_keepsRanges (i : Nat) (r : CallRecord) : s.KeepsRanges (releaseRated i r s).2 :=
  (((accumulateLeg_sameBut s _).trans (accumulateLeg_sameBut _ _)).keepsRanges (by decide)).trans
    (freeCall_keepsRanges _ i r)

theorem releaseCall_keepsRanges (p : PortId) (i g : Nat) : s.KeepsRanges (releaseCall p i g s).2 := by
  unfold releaseCall
  split
  · exact .refl s
  split
  case h_4 => exact (freeInbound_keepsRanges s _).trans ((freeRecord_sameBut _ i).keepsRanges (by decide))
  all_goals exact releaseRated_keepsRanges s i _

theorem expireCall_keepsRanges (i : Nat) (r : CallRecord) : s.KeepsRanges (expireCall i r s) :=
  (freeCall_keepsRanges s i r).trans ((raiseTo_sameBut _ _ _).keepsRanges (by decide))

theorem exchangeRestart_keepsRanges : s.KeepsRanges (exchangeRestart s).2 := fun g =>
  rangeOf_of_map (exchangeRestart_group s g) fun _ => ⟨rfl, rfl, rfl⟩

/-! The requests on groups and circuits that define and remove none. -/

theorem blockGroup_keepsRanges (g : Nat) : s.KeepsRanges (blockGroup g s).2 := by
  unfold blockGroup
  split
  · exact .refl s
  split
  · exact .refl s
  · rename_i hg
    exact setGroup_keepsRanges s hg rfl

theorem unblockGroup_keepsRanges (g form : Nat) : s.KeepsRanges (unblockGroup g form s).2 := by
  unfold unblockGroup
  split
  · exact .refl s
  split
  · exact .refl s
  · rename_i hg
    exact setGroup_keepsRanges s hg rfl

theorem setReserve_keepsRanges (g n : Nat) : s.KeepsRanges (setReserve g n s).2 := by
  unfold setReserve
  split
  · exact .refl s
  split
  · exact .refl s
  · rename_i hg
    exact setGroup_keepsRanges s hg rfl

theorem circuitOut_keepsRanges (c : Nat) : s.KeepsRanges (circuitOut c s).2 := by
  unfold circuitOut
  split
  · exact .refl s
  split
  · exact .refl s
  unfold takeOut
  split
  · exact moveCircuit_keepsRanges s _ c _ _
  all_goals exact fun _ => rfl

theorem circuitReturn_keepsRanges (c form : Nat) : s.KeepsRanges (circuitReturn c form s).2 := by
  unfold circuitReturn
  split
  · exact .refl s
  split
  · exact .refl s
  unfold putBack
  split
  · exact moveCircuit_keepsRanges s _ c _ _
  all_goals exact fun _ => rfl

/-! What ROUTE does behind its walk. -/

theorem dropInbound_keepsRanges (plan : InboundPlan) : s.KeepsRanges (dropInbound plan s) := by
  cases plan with
  | originating => exact .refl s
  | take g c => exact .refl s
  | displaced g c => exact freeCircuit_rangeOf g c s

theorem completeRoute_keepsRanges (p : PortId) (d : Nat) (cls : CallClass) (plan : InboundPlan) (i : Nat)
    (w : Winner) : s.KeepsRanges (completeRoute p d cls plan i w s).2 := fun g =>
  (outboundHunt_rangeOf w.group w.circuit _ g).trans (takeInbound_rangeOf plan s g)

variable {s}

theorem serve_keepsRanges {r : Requester} {c : Instr} {f : State → Reply × State} (hf : s.KeepsRanges (f s).2)
    (h : serve r c f s = .next t) : s.KeepsRanges t :=
  serve_keeps (P := s.KeepsRanges) (fun u a hu => hu.trans ((sameBut_deliver u r c a).keepsRanges (by decide)))
    (.refl s) hf h

/-- Groups are defined and removed by DEFINE_GROUP and by a reset alone, which write CMN too. -/
theorem exec_keepsRanges {c : Instr} (hc : Block.cmn ∉ touches c) (h : exec c s = .next t) : s.KeepsRanges t := by
  cases c with
  | confirm r i g => exact serve_keepsRanges (confirmCall_keepsRanges s _ i g) h
  | release r i g => exact serve_keepsRanges (releaseCall_keepsRanges s _ i g) h
  | guardExpiry i =>
    rw [exec, execGuardExpiry] at h
    split at h
    · exact next_inj h ▸ .refl s
    · exact eventWhen_keeps (P := s.KeepsRanges) (.refl s) (fun _ => expireCall_keepsRanges s i _) h
  | exchangeRestart r => exact serve_keepsRanges (exchangeRestart_keepsRanges s) h
  | setGroupStateBlock r g => exact serve_keepsRanges (blockGroup_keepsRanges s g) h
  | setGroupStateUnblock r g f => exact serve_keepsRanges (unblockGroup_keepsRanges s g f) h
  | setReserve r g n => exact serve_keepsRanges (setReserve_keepsRanges s g n) h
  | circuitMaintOut r c => exact serve_keepsRanges (circuitOut_keepsRanges s c) h
  | circuitMaintReturn r c f => exact serve_keepsRanges (circuitReturn_keepsRanges s c f) h
  | powerOnReset _ | route _ _ _ _ | reroute _ _ _ | defineGroupDefine _ _ _ | defineGroupRemove _ _ _ =>
    exact absurd (by simp [touches]) hc
  | _ => exact (exec_sameBut h).keepsRanges (by simp [touches])

end Ranges

/-! ### Records, profiles and period codes in range -/

section Records

variable {r : CongestionRecord}

theorem countUp_le (n : Nat) : countUp n ≤ Config.maxCount32 := by
  rw [countUp_eq]
  exact min_le_right _ _

/-- Both counts stop at the same number, so refusals stay within attempts (R85). -/
theorem countExamination_inv (h : r.Inv) (refused : Bool) : (countExamination refused r).Inv where
  index := h.index
  level := h.level
  peak := h.peak
  refusals := by
    have hle := h.refusals
    have hmax := h.attempts.trans (show Config.maxCount32 ≤ 4294967295 from Nat.le_refl _)
    cases refused <;> simp only [countExamination, countUp_eq, if_true, Bool.false_eq_true, if_false] <;> omega
  attempts := countUp_le _

theorem unlatched_inv (h : r.Inv) : r.unlatched.Inv where
  index := h.index
  level := Nat.le_refl _
  peak := h.level.trans h.peak
  refusals := h.refusals
  attempts := h.attempts

theorem clampProfile_ok {p : Profile} (h : thresholdsValid p = true) : profileOk (clampProfile p) :=
  ⟨h, min_le_right _ _, min_le_right _ _⟩

end Records

section CongestionInv

variable {s t : State} {c : Instr}

theorem State.CongestionInv.of_keepsRanges (h : s.CongestionInv) (hr : s.KeepsRanges t) (hcmn : t.cmn = s.cmn) :
    t.CongestionInv where
  records g := by
    rw [State.congestion, hcmn]
    exact h.records g
  undefined g hg := by
    rw [State.congestion, hcmn]
    exact h.undefined g (hr.group_eq_none hg)
  profiles n := by
    rw [State.profile, State.stagedProfile, hcmn]
    exact h.profiles n
  periods := by
    rw [hcmn]
    exact h.periods

/-- The record of a defined group rewritten in its ranges. -/
theorem setCongestion_congestionInv (h : s.CongestionInv) {r : CongestionRecord} (hr : r.Inv) {g : Nat} {x : Group}
    (hg : s.group g = some x) : (s.setCongestion g r).CongestionInv where
  records g' := by
    rw [State.setCongestion_congestion]
    split
    · exact hr
    · exact h.records g'
  undefined g' hg' := by
    have hne : g' ≠ g := by
      rintro rfl
      cases hg.symm.trans hg'
    rw [State.setCongestion_congestion, if_neg hne]
    exact h.undefined g' hg'
  profiles := h.profiles
  periods := h.periods

/-! The walk counts on defined groups alone (R85). -/

/-- The state with CMN's records as a walk has counted them. -/
def State.withCounts (s : State) (records : Table CongestionRecord) : State :=
  { s with cmn := { s.cmn with records := records } }

theorem countOn_congestionInv {records : Table CongestionRecord} (h : (s.withCounts records).CongestionInv) {g : Nat}
    {x : Group} (hg : s.group g = some x) (refused : Bool) :
    (s.withCounts (countOn records g refused)).CongestionInv :=
  setCongestion_congestionInv h (countExamination_inv (h.records g) refused) hg

theorem walkFrom_congestionInv (cls : CallClass) (inbound : Option Nat) (l : List Candidate) (t : Tally)
    (records : Table CongestionRecord) (h : (s.withCounts records).CongestionInv) :
    (s.withCounts (walkFrom s cls inbound l t records).2).CongestionInv := by
  induction l generalizing t records with
  | nil => exact h
  | cons c rest ih =>
    rw [walkFrom]
    split
    · exact ih _ _ h
    · rename_i r he
      obtain ⟨hg, -⟩ := eligible_some he
      split
      · exact countOn_congestionInv h hg false
      · exact ih _ _ (countOn_congestionInv h hg true)

theorem selectRoute_congestionInv (h : s.CongestionInv) (d : Nat) (cls : CallClass) (inbound : Option Nat) :
    (selectRoute d cls inbound s).2.CongestionInv := by
  unfold selectRoute
  simp only
  split
  · exact h
  split
  · exact h
  · exact walkFrom_congestionInv _ _ _ _ _ h

theorem routeWith_congestionInv (h : s.CongestionInv) (p : PortId) (d : Nat) (cls : CallClass) (plan : InboundPlan)
    (i : Nat) : (routeWith p d cls plan i s).2.CongestionInv := by
  have hsel := selectRoute_congestionInv h d cls (planGroup plan)
  unfold routeWith
  split <;> rename_i he <;> rw [he] at hsel
  · exact hsel.of_keepsRanges (dropInbound_keepsRanges _ plan)
      ((dropInbound_sameBut _ plan).cmn.resolve_left (by decide))
  · exact hsel.of_keepsRanges (completeRoute_keepsRanges _ p d cls plan i _)
      ((completeRoute_sameBut _ p d cls plan i _).cmn.resolve_left (by decide))

theorem displace_congestionInv (h : s.CongestionInv) (c : Nat) : (displace c s).CongestionInv :=
  h.of_keepsRanges ((displace_sameBut s c).keepsRanges (by decide)) ((displace_sameBut s c).cmn.resolve_left (by decide))

theorem routeCall_congestionInv (h : s.CongestionInv) (p : PortId) (d n : Nat) (inb : Option Nat) :
    (routeCall p d n inb s).2.CongestionInv := by
  unfold routeCall
  split
  · exact h
  split
  · exact h
  split
  · exact h
  unfold routeInbound
  split
  · exact routeWith_congestionInv h p d _ _ _
  split
  · exact h
  · exact routeWith_congestionInv h p d _ _ _
  · exact routeWith_congestionInv (displace_congestionInv h _) p d _ _ _

theorem rerouteCall_congestionInv (h : s.CongestionInv) (p : PortId) (i g : Nat) :
    (rerouteCall p i g s).2.CongestionInv := by
  unfold rerouteCall
  split
  · exact h
  rename_i r _
  have hsel := selectRoute_congestionInv h r.dest r.cls (r.inbound.map (·.group))
  split
  · unfold rerouteRecord
    split <;> rename_i he <;> rw [he] at hsel
    · exact hsel
    · rename_i w s'
      exact hsel.of_keepsRanges (outboundHunt_rangeOf w.group w.circuit s')
        ((outboundHunt_sameBut s' w.group w.circuit).cmn.resolve_left (by decide))
  all_goals exact h

/-! A group defined or removed has a record of zeros (R9, R10). -/

theorem rewriteGroup_congestionInv (h : s.CongestionInv) (g : Nat) (x : Option Group) (circuits : Table Circuit) :
    (rewriteGroup g x circuits s).CongestionInv where
  records g' := by
    rw [rewriteGroup_congestion]
    split
    · exact congestionRecordInv_zero
    · exact h.records g'
  undefined g' hg' := by
    rw [rewriteGroup_group] at hg'
    rw [rewriteGroup_congestion]
    split
    · rfl
    · rename_i hne
      exact h.undefined g' (by rwa [if_neg hne] at hg')
  profiles := h.profiles
  periods := h.periods

theorem defineGroup_congestionInv (h : s.CongestionInv) (g : Nat) (a : GroupArg) :
    (defineGroup g a s).2.CongestionInv := by
  unfold defineGroup
  split
  · exact h
  split
  · exact h
  split
  · exact h
  split
  · exact h
  · exact rewriteGroup_congestionInv h g _ _

theorem removeGroup_congestionInv (h : s.CongestionInv) (g form : Nat) : (removeGroup g form s).2.CongestionInv := by
  unfold removeGroup
  split
  · exact h
  split
  · exact h
  · exact rewriteGroup_congestionInv h g _ _

/-! CMN's own commands. -/

/-- No more circuits of a group are held than it has (R5). -/
theorem State.GroupInv.busy_le {x : Group} (h : s.GroupInv x) : x.busy ≤ x.count := by
  rw [h.busy]
  exact List.countP_le_length.trans (List.length_range' ..).le

theorem recordAfter_inv (hp : s.PoolInv) (h : s.CongestionInv) (g : Nat) : (s.recordAfter g (s.group g)).Inv := by
  cases hg : s.group g with
  | none => exact h.records g
  | some x => exact measured_inv _ (hp.groups g x hg).busy_le (h.records g)

theorem endPeriod_congestionInv (ht : s.TablesInv) (hp : s.PoolInv) (h : s.CongestionInv) :
    (endPeriod s).CongestionInv where
  records g := by
    rw [endPeriod_congestion ht]
    exact recordAfter_inv hp h g
  undefined g hg := by
    have hnone : s.group g = none :=
      State.KeepsRanges.group_eq_none ((endPeriod_sameBut s).keepsRanges (by decide)) hg
    rw [endPeriod_congestion ht, hnone]
    exact h.undefined g hnone
  profiles n := by
    rw [State.profile, State.stagedProfile, endPeriod_cmn]
    exact ⟨(h.profiles n).2, (h.profiles n).2⟩
  periods := by
    rw [endPeriod_cmn]
    exact ⟨h.periods.2, h.periods.2⟩

theorem writeProfile_congestionInv (h : s.CongestionInv) (n : Nat) (p : Profile) :
    (writeProfile n p s).2.CongestionInv := by
  by_cases hok : n ≤ 7 ∧ thresholdsValid p = true
  · rw [writeProfile_done hok.1 hok.2]
    refine { h with profiles := fun m => ⟨(h.profiles m).1, ?_⟩ }
    rw [State.stagedProfile, Table.get_set]
    split
    · exact clampProfile_ok hok.2
    · exact (h.profiles m).2
  · rw [writeProfile_badValue hok]
    exact h

theorem setPeriod_congestionInv (h : s.CongestionInv) (n : Nat) : (setPeriod n s).2.CongestionInv := by
  rcases Nat.lt_or_ge 3 n with hn | hn
  · rw [setPeriod_badValue hn]
    exact h
  · rw [setPeriod_done hn]
    exact { h with periods := ⟨h.periods.1, hn⟩ }

theorem resetLatch_congestionInv (h : s.CongestionInv) (g : Nat) : (resetLatch s g).CongestionInv := by
  unfold resetLatch
  split
  · exact h
  · exact setCongestion_congestionInv h (unlatched_inv (h.records g)) (by assumption)

theorem readCongestion_congestionInv (h : s.CongestionInv) (first n : Nat) :
    (readCongestion first n s).2.CongestionInv := by
  unfold readCongestion
  split
  · exact h
  · exact List.foldlRecOn (motive := State.CongestionInv) _ _ h fun _ hu g _ => resetLatch_congestionInv hu g

/-! ### Every command -/

theorem serve_congestionInv {r : Requester} {f : State → Reply × State} (hs : s.CongestionInv)
    (hf : (f s).2.CongestionInv) (h : serve r c f s = .next t) : t.CongestionInv :=
  serve_keeps (P := State.CongestionInv) (fun u a hu => hu.of_keepsRanges
    ((sameBut_deliver u r c a).keepsRanges (by decide)) (State.deliver_cmn u r c a)) hs hf h

theorem exec_congestionInv (ht : s.TablesInv) (hp : s.PoolInv) (hs : s.CongestionInv) (h : exec c s = .next t) :
    t.CongestionInv := by
  cases c with
  | powerOnReset pins =>
    obtain rfl := next_inj h
    exact reset_congestionInv.of_keepsRanges (fun _ => rfl) rfl
  | route r d n inb => exact serve_congestionInv hs (routeCall_congestionInv hs _ d n inb) h
  | reroute r i g => exact serve_congestionInv hs (rerouteCall_congestionInv hs _ i g) h
  | defineGroupDefine r g a => exact serve_congestionInv hs (defineGroup_congestionInv hs g a) h
  | defineGroupRemove r g f => exact serve_congestionInv hs (removeGroup_congestionInv hs g f) h
  | periodEnd =>
    exact eventWhen_keeps (P := State.CongestionInv) hs (fun _ => endPeriod_congestionInv ht hp hs) h
  | writeProfile r n p => exact serve_congestionInv hs (writeProfile_congestionInv hs n p) h
  | setPeriod r n => exact serve_congestionInv hs (setPeriod_congestionInv hs n) h
  | readCongestionGroup r first n => exact serve_congestionInv hs (readCongestion_congestionInv hs first n) h
  | _ =>
    exact hs.of_keepsRanges (exec_keepsRanges (by simp [touches]) h)
      ((exec_sameBut h).cmn.resolve_left (by simp [touches]))

end CongestionInv

/-- Settles O59: the commands that leave CMN alone define and remove no group, and those of CMN, the walk and DEFINE_GROUP write records and codes in their ranges. -/
theorem stepsKeepCongestionInRange : Obligations.StepsKeepCongestionInRange := by
  intro s t ht hp hs h
  unfold step at h
  split at h
  · exact next_inj h ▸ hs
  · rename_i c rest _
    exact exec_congestionInv (s := { s with pending := rest }) { ht with } (hp.of_blocks rfl rfl) { hs with } h

end Sys2Proof.Machine
end

section
/-! SUPPORT. Carrier agreements: what an offer resolves to (R103), and what each request writes, raises and refuses (R104 to R109). -/

namespace Sys2Proof.Machine

open Sys2Proof

/-! ### Resolution (R103) -/

section Resolution

variable {l set : List Nat}

theorem resolved_unset (carrierOffer : Option (List Nat)) : resolved [] carrierOffer = .unset := rfl

theorem resolved_offerHeld (h : l ≠ []) : resolved l none = .offerHeld := by
  cases l with
  | nil => exact absurd rfl h
  | cons n l => rfl

theorem resolved_of_find?_eq_some {n : Nat} (h : l.find? (fun n => decide (n ∈ set)) = some n) :
    resolved l (some set) = .matched n := by
  cases l with
  | nil => cases h
  | cons m l => simp only [resolved, h]

theorem resolved_of_find?_eq_none (hl : l ≠ []) (h : l.find? (fun n => decide (n ∈ set)) = none) :
    resolved l (some set) = .mismatch := by
  cases l with
  | nil => exact absurd rfl hl
  | cons m l => simp only [resolved, h]

/-- The first slot of the local offer that the carrier offer holds is agreed. -/
theorem resolved_append_cons {pre : List Nat} {n : Nat} (post : List Nat) (hpre : ∀ m ∈ pre, m ∉ set) (hn : n ∈ set) :
    resolved (pre ++ n :: post) (some set) = .matched n :=
  resolved_of_find?_eq_some <| List.find?_eq_some_iff_append.2
    ⟨decide_eq_true hn, pre, post, rfl, fun m hm => by simpa using hpre m hm⟩

theorem resolved_mismatch (hl : l ≠ []) (h : ∀ m ∈ l, m ∉ set) : resolved l (some set) = .mismatch :=
  resolved_of_find?_eq_none hl <| List.find?_eq_none.2 fun m hm => by simpa using h m hm

end Resolution

/-! ### A record rewritten (R108) -/

/-- `t` is `s` with carrier `c`'s record rewritten to `a`, the request `q` of `r` answered DONE with that record, and AGREEMENT_STATE raised before the answer exactly when the state's name changes (R104 to R108). -/
structure State.AgreementAnswered (s : State) (r : Requester) (q : Instr) (c : Nat) (a : Agreement) (t : State) :
    Prop where
  record : t.agreement c = a
  others : ∀ c', c' ≠ c → t.agreement c' = s.agreement c'
  same : s.SameBut [.pct, .cau] t
  pct : t.pct = ((if agreementName a.state = agreementName (s.agreement c).state then s
      else s.raiseAll (.agreementState c (agreementName a.state))).deliver r q ⟨.done, agreementBytes a⟩).pct

section Rewriting

variable {s : State} {c : Nat}

theorem rewriteAgreement_pct (c : Nat) (a : Agreement) (s : State) : (rewriteAgreement c a s).pct =
    (if agreementName a.state = agreementName (s.agreement c).state then s
      else s.raiseAll (.agreementState c (agreementName a.state))).pct := by
  unfold rewriteAgreement
  simp only
  split
  · rfl
  · exact raiseAll_pct_congr (State.setAgreement_pct s c a) (State.setAgreement_tmb s c a) _

theorem serve_answerAgreement {r : Requester} {q : Instr} {f : State → Reply × State} {a : Agreement}
    (h : s.inService r q = true) (hf : f s = answerAgreement c a s) :
    ∃ t, serve r q f s = .next t ∧ s.AgreementAnswered r q c a t :=
  ⟨_, serve_eq h f hf,
    { record := by rw [State.deliver_agreement, rewriteAgreement_agreement, if_pos rfl]
      others := fun c' hne => by rw [State.deliver_agreement, rewriteAgreement_agreement, if_neg hne]
      same := (rewriteAgreement_sameBut s c a).deliver (by simp) r q _
      pct := deliver_pct_congr (rewriteAgreement_pct c a s) r q _ }⟩

end Rewriting

/-! ### Offers (R104, R105, R107) -/

section Offers

variable {s : State} {c : Nat} {l : List Nat}

theorem slotsValid_iff (l : List Nat) :
    slotsValid l = true ↔ l.length ≤ 3 ∧ (∀ n ∈ l, 1 ≤ n ∧ n ≤ 3) ∧ l.Nodup := by
  simp only [slotsValid, Bool.and_eq_true, decide_eq_true_eq, List.all_eq_true, and_assoc]

theorem carrier_refused (h : c = 0 ∨ 63 < c) : (!isCarrier c) = true := by
  rw [isCarrier_eq_false h]
  rfl

theorem carrier_accepted (h1 : 1 ≤ c) (h2 : c ≤ 63) : ¬ (!isCarrier c) = true := by
  rw [(isCarrier_iff c).2 ⟨h1, h2⟩]
  exact Bool.false_ne_true

theorem offer_accepted (h1 : 1 ≤ c) (h2 : c ≤ 63) (hl : slotsValid l = true) :
    ¬ ((!isCarrier c) = true ∨ (!slotsValid l) = true) := by
  rw [hl]
  exact not_or.2 ⟨carrier_accepted h1 h2, Bool.false_ne_true⟩

theorem offer_refused (h : c = 0 ∨ 63 < c ∨ 3 < l.length ∨ (∃ n ∈ l, n = 0 ∨ 3 < n) ∨ ¬ l.Nodup) :
    (!isCarrier c) = true ∨ (!slotsValid l) = true := by
  rw [Bool.not_eq_true', Bool.not_eq_true', ← Bool.not_eq_true, ← Bool.not_eq_true, ← not_and_or, isCarrier_iff,
    slotsValid_iff]
  rintro ⟨⟨hlo, hhi⟩, hlen, hslots, hnodup⟩
  rcases h with h | h | h | ⟨n, hn, h⟩ | h
  · omega
  · omega
  · omega
  · have := hslots n hn
    omega
  · exact h hnodup

theorem writeLocalOffer_done (h1 : 1 ≤ c) (h2 : c ≤ 63) (hl : slotsValid l = true) :
    writeLocalOffer c l s = answerAgreement c
      ⟨l, (s.agreement c).carrierOffer, resolved l (s.agreement c).carrierOffer⟩ s :=
  if_neg (offer_accepted h1 h2 hl)

theorem writeCarrierOffer_done (h1 : 1 ≤ c) (h2 : c ≤ 63) (hl : slotsValid l = true) :
    writeCarrierOffer c l s = answerAgreement c
      ⟨(s.agreement c).localOffer, some (slotSet l), resolved (s.agreement c).localOffer (some (slotSet l))⟩ s :=
  if_neg (offer_accepted h1 h2 hl)

theorem withdrawAgreement_done (h1 : 1 ≤ c) (h2 : c ≤ 63) :
    withdrawAgreement c s = answerAgreement c
      ⟨(s.agreement c).localOffer, none, resolved (s.agreement c).localOffer none⟩ s :=
  if_neg (carrier_accepted h1 h2)

end Offers

/-- Settles O45: each of the three requests rewrites the record to its two offers resolved, and resolution goes by the local offer. -/
theorem offersAreResolved : Obligations.OffersAreResolved := by
  intro r c q s offer relayed h h1 h2 hq
  obtain ⟨t, ht, hans⟩ : ∃ t, exec q s = .next t
      ∧ s.AgreementAnswered r q c ⟨offer, relayed, resolved offer relayed⟩ t := by
    rcases hq with ⟨l, rfl, hlen, hslots, hnodup, rfl, rfl⟩ | ⟨l, rfl, hlen, hslots, hnodup, rfl, rfl⟩
      | ⟨rfl, rfl, rfl⟩
    · exact serve_answerAgreement h (writeLocalOffer_done h1 h2 ((slotsValid_iff _).2 ⟨hlen, hslots, hnodup⟩))
    · exact serve_answerAgreement h (writeCarrierOffer_done h1 h2 ((slotsValid_iff _).2 ⟨hlen, hslots, hnodup⟩))
    · exact serve_answerAgreement h (withdrawAgreement_done h1 h2)
  refine ⟨t, ht, ?_⟩
  rw [hans.record]
  refine ⟨rfl, rfl, ?unset, ?offerHeld, ?matched, ?mismatch, hans.others, hans.same, hans.pct⟩
  case unset =>
    rintro rfl
    exact resolved_unset relayed
  case offerHeld =>
    rintro hne rfl
    exact resolved_offerHeld hne
  case matched =>
    rintro set pre n post rfl rfl hpre hn
    exact resolved_append_cons post hpre hn
  case mismatch =>
    rintro set rfl hne hnone
    exact resolved_mismatch hne hnone

/-! ### Reports (R106) -/

section Reports

variable {s : State} {c n m : Nat}

theorem report_accepted (h1 : 1 ≤ c) (h2 : c ≤ 63) (h3 : 1 ≤ n) (h4 : n ≤ 3) :
    ¬ ((!isCarrier c) = true ∨ n = 0 ∨ 3 < n) :=
  not_or.2 ⟨carrier_accepted h1 h2, by omega⟩

theorem confirmAgreement_matched (h1 : 1 ≤ c) (h2 : c ≤ 63) (h3 : 1 ≤ n) (h4 : n ≤ 3)
    (hst : (s.agreement c).state = .matched m) :
    confirmAgreement c n s =
      answerAgreement c { s.agreement c with state := if n = m then .confirmed m else .mismatch } s := by
  rw [confirmAgreement, if_neg (report_accepted h1 h2 h3 h4), hst]

theorem confirmAgreement_wrongState (h1 : 1 ≤ c) (h2 : c ≤ 63) (h3 : 1 ≤ n) (h4 : n ≤ 3)
    (hst : ∀ m, (s.agreement c).state ≠ .matched m) : confirmAgreement c n s = (⟨.wrongState, []⟩, s) := by
  rw [confirmAgreement, if_neg (report_accepted h1 h2 h3 h4)]
  split
  · exact absurd ‹_› (hst _)
  all_goals rfl

theorem confirmAgreement_badValue (h : c = 0 ∨ 63 < c ∨ n = 0 ∨ 3 < n) :
    confirmAgreement c n s = (⟨.badValue, []⟩, s) := by
  refine if_pos ?_
  rcases h with h | h | h
  · exact .inl (carrier_refused (.inl h))
  · exact .inl (carrier_refused (.inr h))
  · exact .inr h

theorem agreementName_reported (n m : Nat) :
    agreementName (if n = m then .confirmed m else .mismatch) = if n = m then .confirmed else .mismatch := by
  split <;> rfl

/-- A report always changes the state of a MATCHED record. -/
theorem agreementName_reported_ne (n m : Nat) :
    agreementName (if n = m then .confirmed m else .mismatch) ≠ agreementName (.matched m) := by
  rw [agreementName_reported, agreementName]
  split <;> decide

end Reports

/-- Settles O46: a report rewrites a MATCHED record alone, and each request's checks come before it reads the record. -/
theorem reportsConfirmOrMismatch : Obligations.ReportsConfirmOrMismatch := by
  refine ⟨fun r c n m s h h1 h2 h3 h4 hst => ?_,
    fun r c n s h h1 h2 h3 h4 hst => serve_eq h _ (confirmAgreement_wrongState h1 h2 h3 h4 hst), fun r q s h hq => ?_⟩
  · obtain ⟨t, ht, hans⟩ := serve_answerAgreement h (confirmAgreement_matched h1 h2 h3 h4 hst)
    refine ⟨t, ht, hans.record, hans.others, hans.same, ?_⟩
    rw [hans.record, hans.pct, hst, if_neg (agreementName_reported_ne n m), agreementName_reported]
  · rcases hq with ⟨c, l, rfl | rfl, hbad⟩ | ⟨c, n, rfl, hbad⟩ | ⟨c, rfl, hbad⟩ | ⟨c, n, rfl, hbad⟩
    · exact serve_eq h _ (if_pos (offer_refused hbad))
    · exact serve_eq h _ (if_pos (offer_refused hbad))
    · exact serve_eq h _ (confirmAgreement_badValue hbad)
    · exact serve_eq h _ (if_pos (carrier_refused hbad))
    · exact serve_eq h _ (readAgreement_badValue hbad)

end Sys2Proof.Machine
end

section
/-! SUPPORT. Handover rating: the pending tariffs and bands (R117, R119), and the charge of a leg with its bounds (R124 to R129). -/

namespace Sys2Proof.Machine

open Sys2Proof

/-! ### WRITE_TARIFF (R117) -/

section WriteTariff

variable {s : State} {c n : Nat} {v : TariffClass}

theorem clampTariff_eq (v : TariffClass) : clampTariff v =
    { v with step := if v.step = 0 then 1 else if 3600 < v.step then 3600 else v.step
             minSteps := if 255 < v.minSteps then 255 else v.minSteps } := by
  have hmin : min v.minSteps 255 = if 255 < v.minSteps then 255 else v.minSteps := by split <;> omega
  rw [clampTariff, clamp_one 3600 v.step (by decide), hmin]

theorem clampTariff_ne_iff (v : TariffClass) : clampTariff v ≠ v ↔ v.step = 0 ∨ 3600 < v.step ∨ 255 < v.minSteps := by
  have hstep := clamp_one_eq_iff (hi := 3600) (by decide) v.step
  have heq : clampTariff v = v ↔ clamp 1 3600 v.step = v.step ∧ min v.minSteps 255 = v.minSteps := by
    cases v
    simp [clampTariff]
  rw [ne_eq, heq, hstep]
  omega

theorem writeTariff_badValue (h : c = 0 ∨ 63 < c ∨ 3 < n) : writeTariff c n v s = (⟨.badValue, []⟩, s) := by
  refine if_pos ?_
  rcases h with h | h | h
  · exact .inl (carrier_refused (.inl h))
  · exact .inl (carrier_refused (.inr h))
  · exact .inr h

theorem writeTariff_done (h1 : 1 ≤ c) (h2 : c ≤ 63) (hn : n ≤ 3) :
    writeTariff c n v s = (⟨if v.step = 0 ∨ 3600 < v.step ∨ 255 < v.minSteps then .adjusted else .done,
      tariffBytes (clampTariff v)⟩, s.setPendingTariff c n (clampTariff v)) := by
  have hok : ¬ ((!isCarrier c) = true ∨ 3 < n) := not_or.2 ⟨carrier_accepted h1 h2, Nat.not_lt.2 hn⟩
  rw [writeTariff, if_neg hok]
  simp only [doneOr, decide_eq_true_eq, clampTariff_ne_iff]

/-- The slot written reads as the class written. -/
theorem setPendingTariff_same (s : State) (c n : Nat) (v : TariffClass) :
    (s.setPendingTariff c n v).pendingTariff c n = v := by
  rw [State.setPendingTariff_pendingTariff, if_pos rfl]

/-- Every other slot of every carrier reads as before. -/
theorem setPendingTariff_other {c' n' : Nat} (hn : n ≤ 3) (hn' : n' ≤ 3) (hne : (c', n') ≠ (c, n)) :
    (s.setPendingTariff c n v).pendingTariff c' n' = s.pendingTariff c' n' := by
  rw [State.setPendingTariff_pendingTariff, if_neg]
  rwa [tariffKey_inj _ _ _ _ hn' hn, ← Prod.mk.injEq]

end WriteTariff

/-! ### WRITE_BANDS (R119) -/

section WriteBands

variable {s : State} {l : List SwitchPoint}

theorem bandsValid_iff (l : List SwitchPoint) : bandsValid l = true ↔
    l.length ≤ 8 ∧ (∀ p ∈ l, p.second ≤ 86399 ∧ p.band ≤ 3) ∧ l.Pairwise fun p q => p.second < q.second := by
  simp only [bandsValid, Bool.and_eq_true, decide_eq_true_eq, List.all_eq_true, and_assoc]
  exact Iff.rfl

theorem writeBands_done (h : bandsValid l = true) :
    writeBands l s = (⟨.done, []⟩, { s with hru := { s.hru with pendingBands := l } }) := if_pos h

theorem writeBands_badValue (h : ¬ bandsValid l = true) : writeBands l s = (⟨.badValue, []⟩, s) := if_neg h

end WriteBands

/-- Settles O47: each request's checks, and the one pending field that it writes. -/
theorem pendingTariffsAreWritten : Obligations.PendingTariffsAreWritten := by
  refine ⟨fun r c n v s h => ⟨fun h1 h2 hn => ?_, fun hbad => serve_eq h _ (writeTariff_badValue hbad)⟩,
    fun r l s h => ?_⟩
  · rw [← clampTariff_eq]
    refine ⟨_, _, serve_eq h _ (writeTariff_done h1 h2 hn), rfl, ?_, fun c' n' hn' hne => ?_, ?_,
      ((sameBut_hru s _).mono (by simp)).deliver (by simp) r _ _, deliver_pct_congr (by rfl) r _ _⟩
    · rw [State.deliver_pendingTariff, setPendingTariff_same]
    · rw [State.deliver_pendingTariff, setPendingTariff_other hn hn' hne]
    · rw [State.deliver_hru]
      rfl
  · rw [← bandsValid_iff]
    exact ⟨fun hl => ⟨_, serve_eq h _ (writeBands_done hl), State.deliver_hru _ _ _ _,
      ((sameBut_hru s _).mono (by simp)).deliver (by simp) r _ _, deliver_pct_congr (by rfl) r _ _⟩,
      fun hl => serve_eq h _ (writeBands_badValue hl)⟩

/-! ### Charged steps (R125, R126) -/

section Steps

variable {v : TariffClass} {d : Nat}

/-- The whole or begun steps of a duration are a ceiling division. -/
theorem chargedSteps_eq (v : TariffClass) (d : Nat) : chargedSteps v d = max (d ⌈/⌉ (1000 * v.step)) v.minSteps := by
  rw [chargedSteps, Nat.ceilDiv_eq_add_pred_div]

theorem chargedSteps_zero (v : TariffClass) : chargedSteps v 0 = v.minSteps := by
  rw [chargedSteps_eq, zero_ceilDiv, max_eq_right (Nat.zero_le _)]

/-- A duration ends in the last of its begun steps. -/
theorem ceilDiv_pred_mul_lt {w : Nat} (hw : 0 < w) (hd : 0 < d) : (d ⌈/⌉ w - 1) * w < d := by
  rw [← Nat.not_le, mul_comm, ← ceilDiv_le_iff_le_mul hw]
  have hpos : 0 < d ⌈/⌉ w := by
    rw [Nat.pos_iff_ne_zero, ne_eq, ← Nat.le_zero, ceilDiv_le_iff_le_mul hw]
    omega
  omega

theorem chargedSteps_begun (hv : 1 ≤ v.step) (hd : 0 < d) : ∃ whole, (whole - 1) * (1000 * v.step) < d
    ∧ d ≤ whole * (1000 * v.step) ∧ chargedSteps v d = max whole v.minSteps := by
  have hw : 0 < 1000 * v.step := by omega
  refine ⟨_, ceilDiv_pred_mul_lt hw hd, ?_, chargedSteps_eq v d⟩
  rw [mul_comm]
  exact le_smul_ceilDiv hw

/-- No leg has more steps than a day has seconds. -/
theorem chargedSteps_le (hv : 1 ≤ v.step) (hm : v.minSteps ≤ 255) (hd : d ≤ 86400000) : chargedSteps v d ≤ 86400 := by
  rw [chargedSteps_eq, max_le_iff, ceilDiv_le_iff_le_mul (by omega)]
  omega

end Steps

/-! ### Base charge and surcharge (R127, R128) -/

section Charge

variable {v : TariffClass}

theorem bandRate_le {m : Nat} (h0 : v.rate0 ≤ m) (h1 : v.rate1 ≤ m) (h2 : v.rate2 ≤ m) (h3 : v.rate3 ≤ m)
    (band : Nat) : bandRate v band ≤ m := by
  unfold bandRate
  split <;> assumption

/-- A base charge is largest with the largest setup charge, and with the largest rate over 86,400 steps. -/
theorem baseCharge_le {steps band : Nat} (hsetup : v.setup ≤ 65535) (hrate : bandRate v band ≤ 65535)
    (hsteps : steps ≤ 86400) : baseCharge v steps band ≤ 65535 + 86400 * 65535 :=
  Nat.add_le_add hsetup (Nat.mul_le_mul hsteps hrate)

theorem surchargeFraction_none {cls : CallClass} {level : Nat} (h : cls = .emergency ∨ level = 0) :
    surchargeFraction v cls level = 0 := by
  unfold surchargeFraction
  split
  · rfl
  · rename_i hcls
    rw [h.resolve_left hcls]
    rfl

theorem surchargeFraction_of_mem {cls : CallClass} {level f : Nat} (hcls : cls ≠ .emergency)
    (hf : (level, f) ∈ [(1, v.surcharge1), (2, v.surcharge2), (3, v.surcharge3)]) :
    surchargeFraction v cls level = f := by
  simp only [List.mem_cons, Prod.mk.injEq, List.not_mem_nil, or_false] at hf
  rcases hf with ⟨rfl, rfl⟩ | ⟨rfl, rfl⟩ | ⟨rfl, rfl⟩ <;> exact if_neg hcls

theorem surchargeFraction_le {m : Nat} (h1 : v.surcharge1 ≤ m) (h2 : v.surcharge2 ≤ m) (h3 : v.surcharge3 ≤ m)
    (cls : CallClass) (level : Nat) : surchargeFraction v cls level ≤ m := by
  unfold surchargeFraction
  split
  · exact Nat.zero_le m
  · split
    · exact Nat.zero_le m
    all_goals assumption

theorem surcharge_zero (base : Nat) : surcharge base 0 = 0 := by
  rw [surcharge, Nat.mul_zero]

/-- A fraction of at most 255 parts in 256 never rounds above the base charge. -/
theorem surcharge_le {base f : Nat} (hf : f ≤ 255) : surcharge base f ≤ base := by
  have hmul : base * f ≤ base * 255 := Nat.mul_le_mul_left base hf
  unfold surcharge
  omega

end Charge

/-- Settles O48: the steps are a ceiling division, and the surcharge is at most the base charge. -/
theorem chargesLieBetweenBaseAndTwiceBase : Obligations.ChargesLieBetweenBaseAndTwiceBase := by
  intro v k c n level cls a now hstep hmin hsetup h0 h1 h2 h3 hs1 hs2 hs3
  have hsteps : chargedSteps v (min (now - a.time) 86400000) ≤ 86400 := chargedSteps_le hstep hmin (Nat.min_le_right _ _)
  have hbase := baseCharge_le hsetup (bandRate_le h0 h1 h2 h3 a.band) hsteps
  have hle := surcharge_le (base := baseCharge v (chargedSteps v (min (now - a.time) 86400000)) a.band)
    (surchargeFraction_le hs1 hs2 hs3 cls level)
  refine ⟨rfl, _, _, _, _, rfl, fun hd => ?_, fun hd => chargedSteps_begun hstep hd, hsteps, rfl, fun hnone => ?_,
    fun f hcls hf => ?_, rfl, hle, ?_⟩
  · rw [hd, chargedSteps_zero]
  · rw [surchargeFraction_none hnone, surcharge_zero]
  · rw [surchargeFraction_of_mem hcls hf]
    rfl
  · calc _ ≤ (65535 + 86400 * 65535) + (65535 + 86400 * 65535) := Nat.add_le_add hbase (hle.trans hbase)
      _ < 2 ^ 34 := by decide

end Sys2Proof.Machine
end

section
/-! SUPPORT. The close of a period: the close that swaps the banks (R121, R138), the close that is deferred (R137), and the two commands that close (R139, R141). -/

namespace Sys2Proof.Machine

open Sys2Proof

/-! ### What a close makes of the banks -/

/-- `t` is `s` after a close that swaps the banks: bank `k`, ACTIVE with period `p` since `since`, is closed now with its records, the other bank is opened now with the next period, and the pending tariffs and bands are in force (R121, R138). -/
structure State.BanksSwapped (s : State) (k : BankId) (p : Nat) (since : Stamp) (t : State) : Prop where
  closed : t.bank k = { s.bank k with state := .collectable p since ⟨s.tmb.day, s.tmb.second⟩ }
  opened : t.bank (otherBank k) = ⟨.active ((p + 1) % 65536) ⟨s.tmb.day, s.tmb.second⟩, []⟩
  active : t.sts.activeBank = otherBank k
  notDeferred : t.sts.closeDeferred = false
  autoClose : t.sts.autoClose = s.sts.autoClose
  hru : t.hru = ⟨s.hru.pendingClasses, s.hru.pendingClasses, s.hru.pendingBands, s.hru.pendingBands⟩
  same : s.SameBut [.pct, .hru, .sts] t

/-- `t` is `s` after a close that is deferred: the flag is set, and the banks stand as they were (R137). -/
structure State.CloseHeld (s t : State) : Prop where
  banks : ∀ k, t.bank k = s.bank k
  active : t.sts.activeBank = s.sts.activeBank
  deferred : t.sts.closeDeferred = true
  autoClose : t.sts.autoClose = s.sts.autoClose
  same : s.SameBut [.pct, .sts] t

section Closes

variable {s t : State} {k : BankId} {p : Nat} {since : Stamp}

theorem bankPeriod_active {b : Bank} (h : b.state = .active p since) : bankPeriod b = p := by
  rw [bankPeriod, h]

theorem closeBank_active {b : Bank} (now : Stamp) (h : b.state = .active p since) :
    closeBank now b = { b with state := .collectable p since now } := by
  rw [closeBank, h]

/-! ### The swap (R138) -/

/-- A swap writes each bank once: the ACTIVE bank closed, and the other one opened. -/
theorem swapBanks_bank (s : State) (k : BankId) : (swapBanks s).bank k =
    ((s.setBank s.sts.activeBank (closeBank s.bankStamp (s.bank s.sts.activeBank))).setBank (otherBank s.sts.activeBank)
      ⟨.active (nextPeriod (bankPeriod (s.bank s.sts.activeBank))) s.bankStamp, []⟩).bank k := by
  cases k <;> rfl

theorem swapBanks_autoClose (s : State) : (swapBanks s).sts.autoClose = s.sts.autoClose := by
  simp [swapBanks, takeTariffs]

theorem swapBanks_closeDue (s : State) : (swapBanks s).sts.closeDue = s.sts.closeDue := by
  simp [swapBanks, takeTariffs]

theorem swapBanks_pct (h : (s.bank s.sts.activeBank).state = .active p since) :
    (swapBanks s).pct = (s.raiseAll (.periodClosed s.sts.activeBank p)).pct := by
  rw [← bankPeriod_active h]
  exact raiseAll_pct_congr rfl rfl _

theorem swapBanks_banksSwapped (h : (s.bank s.sts.activeBank).state = .active p since) :
    s.BanksSwapped s.sts.activeBank p since (swapBanks s) where
  closed := by
    rw [swapBanks_bank, State.setBank_bank, if_neg (otherBank_ne _).symm, State.setBank_bank, if_pos rfl,
      closeBank_active _ h]
    rfl
  opened := by
    rw [swapBanks_bank, State.setBank_bank, if_pos rfl, bankPeriod_active h]
    rfl
  active := rfl
  notDeferred := rfl
  autoClose := swapBanks_autoClose s
  hru := rfl
  same := swapBanks_sameBut s

theorem State.BanksSwapped.deliver (h : s.BanksSwapped k p since t) (r : Requester) (c : Instr) (a : Reply) :
    s.BanksSwapped k p since (t.deliver r c a) where
  closed := (State.deliver_bank t r c a k).trans h.closed
  opened := (State.deliver_bank t r c a _).trans h.opened
  active := by rw [State.deliver_sts, h.active]
  notDeferred := by rw [State.deliver_sts, h.notDeferred]
  autoClose := by rw [State.deliver_sts, h.autoClose]
  hru := (State.deliver_hru t r c a).trans h.hru
  same := h.same.deliver (by simp) r c a

/-! ### The deferral (R137) -/

theorem deferClose_sts (s : State) : (deferClose s).sts = { s.sts with closeDeferred := true } := by
  unfold deferClose
  split
  · rename_i h
    rw [← h]
  · rfl

theorem deferClose_closeHeld (s : State) : s.CloseHeld (deferClose s) where
  banks k := by cases k <;> simp only [State.bank, deferClose_sts]
  active := by rw [deferClose_sts]
  deferred := by rw [deferClose_sts]
  autoClose := by rw [deferClose_sts]
  same := by
    unfold deferClose
    split
    · exact .refl _ _
    · exact ((sameBut_sts s _).mono (by simp)).trans ((raiseAll_sameBut _ _).mono (by simp))

/-- CLOSE_DEFERRED is raised at the first deferral alone. -/
theorem deferClose_pct (h : (s.bank s.sts.activeBank).state = .active p since) : (deferClose s).pct =
    (if s.sts.closeDeferred = true then s else s.raiseAll (.closeDeferred p)).pct := by
  rw [← bankPeriod_active h]
  unfold deferClose
  split
  · rfl
  · exact raiseAll_pct_congr rfl rfl _

theorem State.CloseHeld.deliver (h : s.CloseHeld t) (r : Requester) (c : Instr) (a : Reply) :
    s.CloseHeld (t.deliver r c a) where
  banks k := (State.deliver_bank t r c a k).trans (h.banks k)
  active := by rw [State.deliver_sts, h.active]
  deferred := by rw [State.deliver_sts, h.deferred]
  autoClose := by rw [State.deliver_sts, h.autoClose]
  same := h.same.deliver (by simp) r c a

/-! ### Which of the two a close is (R137) -/

theorem mustDefer_available (h : (s.bank (otherBank s.sts.activeBank)).state = .available) : mustDefer s = false := by
  rw [mustDefer, h]

theorem mustDefer_collectable {q : Nat} {o c : Stamp}
    (h : (s.bank (otherBank s.sts.activeBank)).state = .collectable q o c) : mustDefer s = true := by
  rw [mustDefer, h]

theorem performClose_swaps (h : mustDefer s = false) : performClose s = swapBanks s := by
  rw [performClose, if_neg (Bool.eq_false_iff.1 h)]

theorem performClose_defers (h : mustDefer s = true) : performClose s = deferClose s := if_pos h

/-! ### CLOSE_PERIOD (R139) -/

theorem closePeriod_swaps (h : (s.bank s.sts.activeBank).state = .active p since) (hd : mustDefer s = false) :
    closePeriod s = (⟨.done, swapBytes s.sts.activeBank p⟩, swapBanks s) := by
  simp [closePeriod, hd, performClose_swaps hd, bankPeriod_active h]

theorem closePeriod_defers (h : (s.bank s.sts.activeBank).state = .active p since) (hd : mustDefer s = true) :
    closePeriod s = (⟨.deferred, beBytes 2 p⟩, deferClose s) := by
  simp [closePeriod, hd, performClose_defers hd, bankPeriod_active h]

/-! ### AUTOMATIC_CLOSE (R141) -/

/-- The mark of the due close is cleared: the state on which AUTOMATIC_CLOSE performs its close. -/
def State.closeServed (s : State) : State := { s with sts := { s.sts with closeDue := false } }

theorem automaticClose_due (h : s.sts.closeDue = true) : exec .automaticClose s = .next (performClose s.closeServed) :=
  if_pos h

theorem automaticClose_notDue (h : s.sts.closeDue = false) : exec .automaticClose s = .next s :=
  if_neg (Bool.eq_false_iff.1 h)

@[simp] theorem State.closeServed_bank (s : State) (k : BankId) : s.closeServed.bank k = s.bank k := by
  cases k <;> rfl

theorem closeServed_active (h : (s.bank s.sts.activeBank).state = .active p since) :
    (s.closeServed.bank s.closeServed.sts.activeBank).state = .active p since :=
  (congrArg Bank.state (State.closeServed_bank s _)).trans h

theorem mustDefer_closeServed (s : State) : mustDefer s.closeServed = mustDefer s := by
  rw [mustDefer, State.closeServed_bank]
  rfl

theorem closeServed_sameBut (s : State) : s.SameBut [.sts] s.closeServed := sameBut_sts s _

theorem State.BanksSwapped.of_closeServed (h : s.closeServed.BanksSwapped k p since t) : s.BanksSwapped k p since t :=
  { h with
    closed := h.closed.trans (by rw [State.closeServed_bank]; rfl)
    same := ((closeServed_sameBut s).mono (by simp)).trans h.same }

theorem State.CloseHeld.of_closeServed (h : s.closeServed.CloseHeld t) : s.CloseHeld t :=
  { h with
    banks := fun k => (h.banks k).trans (State.closeServed_bank s k)
    same := ((closeServed_sameBut s).mono (by simp)).trans h.same }

theorem automaticClose_swaps (h : (s.bank s.sts.activeBank).state = .active p since) (hd : mustDefer s = false)
    (hdue : s.sts.closeDue = true) : ∃ t, exec .automaticClose s = .next t
      ∧ s.BanksSwapped s.sts.activeBank p since t ∧ t.sts.closeDue = false
      ∧ t.pct = (s.raiseAll (.periodClosed s.sts.activeBank p)).pct := by
  have h' := closeServed_active h
  refine ⟨_, automaticClose_due hdue, ?_⟩
  rw [performClose_swaps ((mustDefer_closeServed s).trans hd)]
  exact ⟨(swapBanks_banksSwapped h').of_closeServed, swapBanks_closeDue _,
    (swapBanks_pct h').trans (raiseAll_pct_congr rfl rfl _)⟩

theorem automaticClose_defers (h : (s.bank s.sts.activeBank).state = .active p since) (hd : mustDefer s = true)
    (hdue : s.sts.closeDue = true) : ∃ t, exec .automaticClose s = .next t ∧ s.CloseHeld t ∧ t.sts.closeDue = false
      ∧ t.pct = (if s.sts.closeDeferred = true then s else s.raiseAll (.closeDeferred p)).pct := by
  have h' := closeServed_active h
  refine ⟨_, automaticClose_due hdue, ?_⟩
  rw [performClose_defers ((mustDefer_closeServed s).trans hd)]
  refine ⟨(deferClose_closeHeld _).of_closeServed, by rw [deferClose_sts]; rfl, (deferClose_pct h').trans ?_⟩
  rw [apply_ite State.pct, apply_ite State.pct, raiseAll_pct_congr (s := s) rfl rfl]
  rfl

end Closes

/-- Settles O50: the state of the other bank tells a swap from a deferral, for the request and for the automatic close alike. -/
theorem closesSwapOrDefer : Obligations.ClosesSwapOrDefer := by
  refine ⟨fun c s u k p opened swapped deferred hk hactive hcommand => ⟨fun havailable => ?_, fun q o' c' hcollectable => ?_⟩,
    fun s hdue => automaticClose_notDue hdue⟩
  all_goals subst hk
  · have hd := mustDefer_available havailable
    simp only [if_pos havailable] at hcommand
    obtain ⟨t, ht, hswapped, hdue, hpct⟩ : ∃ t, exec c s = .next t ∧ s.BanksSwapped s.sts.activeBank p opened t
        ∧ (c = .automaticClose → t.sts.closeDue = false) ∧ t.pct = u.pct := by
      rcases hcommand with ⟨r, rfl, h, rfl, -, rfl⟩ | ⟨rfl, hdue, rfl⟩
      · exact ⟨_, serve_eq h _ (closePeriod_swaps hactive hd), (swapBanks_banksSwapped hactive).deliver r _ _, nofun,
          deliver_pct_congr (swapBanks_pct hactive) r _ _⟩
      · obtain ⟨t, ht, hswapped, hserved, hpct⟩ := automaticClose_swaps hactive hd hdue
        exact ⟨t, ht, hswapped, fun _ => hserved, hpct⟩
    exact ⟨t, ht, hswapped.closed, hswapped.opened, hswapped.active, hswapped.notDeferred, hswapped.autoClose,
      hswapped.hru, hdue, hswapped.same, hpct⟩
  · have hd := mustDefer_collectable hcollectable
    have hnot : (s.bank (otherBank s.sts.activeBank)).state ≠ .available := by simp [hcollectable]
    simp only [if_neg hnot] at hcommand
    obtain ⟨t, ht, hheld, hdue, hpct⟩ : ∃ t, exec c s = .next t ∧ s.CloseHeld t
        ∧ (c = .automaticClose → t.sts.closeDue = false) ∧ t.pct = u.pct := by
      rcases hcommand with ⟨r, rfl, h, -, rfl, rfl⟩ | ⟨rfl, hdue, rfl⟩
      · refine ⟨_, serve_eq h _ (closePeriod_defers hactive hd), (deferClose_closeHeld s).deliver r _ _, nofun, ?_⟩
        rw [← apply_ite fun v : State => v.deliver r _ _]
        exact deliver_pct_congr (deferClose_pct hactive) r _ _
      · obtain ⟨t, ht, hheld, hserved, hpct⟩ := automaticClose_defers hactive hd hdue
        exact ⟨t, ht, hheld, fun _ => hserved, hpct⟩
    exact ⟨t, ht, hheld.banks _, hheld.banks _, hheld.active, hheld.deferred, hheld.autoClose, hdue, hheld.same, hpct⟩

end Sys2Proof.Machine
end

section
/-! SUPPORT. Accumulation: what a rated leg makes of its carrier's record in the ACTIVE bank (R136). -/

namespace Sys2Proof.Machine

open Sys2Proof

/-! ### Saturating addition -/

theorem saturatingAdd_fst (largest value addend : Nat) :
    (saturatingAdd largest value addend).1 = min (value + addend) largest := by
  unfold saturatingAdd
  split
  · rename_i h
    exact (Nat.min_eq_right h.le).symm
  · rename_i h
    exact (Nat.min_eq_left (Nat.not_lt.1 h)).symm

theorem saturatingAdd_snd (largest value addend : Nat) :
    (saturatingAdd largest value addend).2 = decide (largest < value + addend) := by
  unfold saturatingAdd
  split <;> simp [*]

/-! ### One leg and one record -/

section Legs

variable {leg : RatedLeg}

theorem addLeg_payable (ha : leg.answered = true) (hk : leg.kind = .payable) (x : SettlementRecord) :
    addLeg leg x = { x with
      payable := min (x.payable + leg.charge) Config.maxCount48
      payableLegs := min (x.payableLegs + 1) Config.maxCount32
      steps := min (x.steps + leg.steps) Config.maxCount32
      saturated := x.saturated || decide (Config.maxCount48 < x.payable + leg.charge)
        || decide (Config.maxCount32 < x.payableLegs + 1) || decide (Config.maxCount32 < x.steps + leg.steps) } := by
  simp only [addLeg, ha, hk, if_true, saturatingAdd_fst, saturatingAdd_snd]

theorem addLeg_receivable (ha : leg.answered = true) (hk : leg.kind = .receivable) (x : SettlementRecord) :
    addLeg leg x = { x with
      receivable := min (x.receivable + leg.charge) Config.maxCount48
      receivableLegs := min (x.receivableLegs + 1) Config.maxCount32
      steps := min (x.steps + leg.steps) Config.maxCount32
      saturated := x.saturated || decide (Config.maxCount48 < x.receivable + leg.charge)
        || decide (Config.maxCount32 < x.receivableLegs + 1) || decide (Config.maxCount32 < x.steps + leg.steps) } := by
  simp only [addLeg, ha, hk, if_true, saturatingAdd_fst, saturatingAdd_snd]

theorem addLeg_unanswered (ha : leg.answered = false) (x : SettlementRecord) :
    addLeg leg x = { x with
      unanswered := min (x.unanswered + 1) Config.maxCount32
      saturated := x.saturated || decide (Config.maxCount32 < x.unanswered + 1) } := by
  simp only [addLeg, ha, Bool.false_eq_true, if_false, saturatingAdd_fst, saturatingAdd_snd]

/-- Each field that a leg adds to is held at its largest value (R133, R136). -/
theorem addLeg_inv {x : SettlementRecord} (h : x.Inv) (leg : RatedLeg) : (addLeg leg x).Inv := by
  cases ha : leg.answered with
  | false =>
    rw [addLeg_unanswered ha]
    exact { h with unanswered := Nat.min_le_right _ _ }
  | true =>
    cases hk : leg.kind with
    | payable =>
      rw [addLeg_payable ha hk]
      exact { h with
        payable := Nat.min_le_right _ _, payableLegs := Nat.min_le_right _ _, steps := Nat.min_le_right _ _ }
    | receivable =>
      rw [addLeg_receivable ha hk]
      exact { h with
        receivable := Nat.min_le_right _ _, receivableLegs := Nat.min_le_right _ _, steps := Nat.min_le_right _ _ }

/-! ### The banks -/

theorem accumulate_otherBank (leg : RatedLeg) (s : State) :
    (accumulate leg s).bank (otherBank s.sts.activeBank) = s.bank (otherBank s.sts.activeBank) :=
  (State.setBank_bank _ _ _ _).trans (if_neg (otherBank_ne _))

theorem accumulate_state (leg : RatedLeg) (s : State) (k : BankId) :
    ((accumulate leg s).bank k).state = (s.bank k).state := by
  rw [accumulate, State.setBank_bank]
  split
  · rename_i hk
    rw [hk]
  · rfl

/-- A leg writes one record: its carrier's in the ACTIVE bank. -/
theorem accumulate_record (leg : RatedLeg) (s : State) (k : BankId) (c : Nat) :
    ((accumulate leg s).bank k).record c =
      if k = s.sts.activeBank ∧ c = leg.carrier then addLeg leg ((s.bank k).record c) else (s.bank k).record c := by
  rw [accumulate, State.setBank_bank]
  by_cases hk : k = s.sts.activeBank
  · subst hk
    simp only [if_true, true_and, Bank.record, Table.get_set]
    split
    · rename_i hc
      rw [hc]
    · rfl
  · rw [if_neg hk, if_neg fun h => hk h.1]

theorem accumulate_activeBank (leg : RatedLeg) (s : State) : (accumulate leg s).sts.activeBank = s.sts.activeBank :=
  State.setBank_activeBank _ _ _

theorem accumulate_closeDeferred (leg : RatedLeg) (s : State) :
    (accumulate leg s).sts.closeDeferred = s.sts.closeDeferred :=
  State.setBank_closeDeferred _ _ _

theorem accumulate_sameBut (leg : RatedLeg) (s : State) : s.SameBut [.sts] (accumulate leg s) := setBank_sameBut s _ _

end Legs

/-- Settles O49: the record of the leg's carrier is the one written, and each field of it is a sum held at its largest value. -/
theorem legsAccumulateAndSaturate : Obligations.LegsAccumulateAndSaturate := by
  intro leg s
  refine ⟨_, addLeg leg ((s.bank s.sts.activeBank).record leg.carrier), rfl, ?_, fun ha hk => ?_, fun ha hk => ?_,
    addLeg_unanswered (x := _), fun c hc => ?_, accumulate_state leg s _, accumulate_otherBank leg s,
    accumulate_activeBank leg s, accumulate_closeDeferred leg s, State.setBank_autoClose _ _ _,
    State.setBank_closeDue _ _ _, accumulate_sameBut leg s⟩
  · rw [accumulate_record, if_pos ⟨rfl, rfl⟩]
  · rw [addLeg_payable ha hk]
    exact ⟨rfl, rfl, rfl, rfl, rfl, rfl, by
      simp only [Bool.or_eq_true, decide_eq_true_eq, or_assoc]
      exact Iff.rfl⟩
  · rw [addLeg_receivable ha hk]
    exact ⟨rfl, rfl, rfl, rfl, rfl, rfl, by
      simp only [Bool.or_eq_true, decide_eq_true_eq, or_assoc]
      exact Iff.rfl⟩
  · rw [accumulate_record, if_neg fun h => hc h.2]

end Sys2Proof.Machine
end

section
/-! SUPPORT. The release of a bank, with the close that waits for it (R142), and the automatic close setting (R140). -/

namespace Sys2Proof.Machine

open Sys2Proof

/-! ### The two banks (R135) -/

section Release

variable {s : State} {k : BankId} {p n q : Nat} {since o c : Stamp}

theorem ne_iff_eq_otherBank (k k' : BankId) : k ≠ k' ↔ k' = otherBank k := by
  cases k <;> cases k' <;> decide

/-- A COLLECTABLE bank is the one that the index does not name. -/
theorem State.BankInv.activeBank_of_collectable (h : s.BankInv) (hk : (s.bank k).state = .collectable q o c) :
    s.sts.activeBank = otherBank k := by
  obtain ⟨p, since, hactive, -, -⟩ := h.active
  refine (ne_iff_eq_otherBank k _).1 fun he => ?_
  rw [he, hactive] at hk
  cases hk

/-! ### RELEASE_BANK (R142) -/

/-- Bank `k` is AVAILABLE and empty: the state on which RELEASE_BANK performs the close that waits. -/
def State.bankEmptied (s : State) (k : BankId) : State := s.setBank k ⟨.available, []⟩

theorem bankEmptied_bank_self (s : State) (k : BankId) : (s.bankEmptied k).bank k = ⟨.available, []⟩ :=
  (State.setBank_bank _ _ _ _).trans (if_pos rfl)

theorem bankEmptied_bank_other (s : State) (k : BankId) :
    (s.bankEmptied k).bank (otherBank k) = s.bank (otherBank k) :=
  (State.setBank_bank _ _ _ _).trans (if_neg (otherBank_ne k))

theorem bankEmptied_activeBank (s : State) (k : BankId) : (s.bankEmptied k).sts.activeBank = s.sts.activeBank :=
  State.setBank_activeBank _ _ _

theorem bankEmptied_sameBut (s : State) (k : BankId) : s.SameBut [.sts] (s.bankEmptied k) := setBank_sameBut s _ _

theorem releaseBank_badValue (h : 1 < n) : releaseBank n s = (⟨.badValue, []⟩, s) := by
  simp only [releaseBank, bankOf_eq_none h, Reply.plain]

theorem releaseBank_wrongState (h : ∀ q o c, (s.bank k).state ≠ .collectable q o c) :
    releaseBank (bankCode k) s = (⟨.wrongState, []⟩, s) := by
  simp only [releaseBank, bankOf_bankCode, Reply.plain]
  split
  · rename_i hk
    exact absurd hk (h _ _ _)
  · rfl
  · rfl

theorem releaseBank_collectable (h : (s.bank k).state = .collectable q o c) :
    releaseBank (bankCode k) s = collectBank k s := by
  simp only [releaseBank, bankOf_bankCode, h]

theorem collectBank_empties (hd : s.sts.closeDeferred = false) :
    collectBank k s = (⟨.done, [0] ++ List.replicate 6 255⟩, s.bankEmptied k) := by
  simp only [collectBank, hd, Bool.false_eq_true, if_false]
  rfl

theorem collectBank_swaps (hd : s.sts.closeDeferred = true) (ha : s.sts.activeBank = otherBank k)
    (hactive : (s.bank (otherBank k)).state = .active p since) :
    collectBank k s = (⟨.done, [1] ++ swapBytes (otherBank k) p⟩, swapBanks (s.bankEmptied k)) := by
  have hp : bankPeriod ((s.bankEmptied k).bank (otherBank k)) = p := by
    rw [bankEmptied_bank_other, bankPeriod_active hactive]
  simp only [collectBank, hd, if_true, ha]
  rw [← hp]
  rfl

/-- The close that waits is performed over the bank that has just been emptied. -/
theorem swapBanks_bankEmptied (ha : s.sts.activeBank = otherBank k)
    (hactive : (s.bank (otherBank k)).state = .active p since) :
    s.BanksSwapped (otherBank k) p since (swapBanks (s.bankEmptied k))
      ∧ (swapBanks (s.bankEmptied k)).pct = (s.raiseAll (.periodClosed (otherBank k) p)).pct := by
  have hk : (s.bankEmptied k).sts.activeBank = otherBank k := (bankEmptied_activeBank s k).trans ha
  have hactive' : ((s.bankEmptied k).bank (s.bankEmptied k).sts.activeBank).state = .active p since := by
    rw [hk, bankEmptied_bank_other, hactive]
  have hswapped := swapBanks_banksSwapped hactive'
  have hpct := swapBanks_pct hactive'
  rw [hk] at hswapped hpct
  refine ⟨{ hswapped with
    closed := hswapped.closed.trans (by rw [bankEmptied_bank_other]; rfl)
    autoClose := hswapped.autoClose.trans (State.setBank_autoClose _ _ _)
    same := ((bankEmptied_sameBut s k).mono (by simp)).trans hswapped.same }, hpct.trans (raiseAll_pct_congr rfl rfl _)⟩

end Release

/-! ### SET_AUTO_CLOSE (R140) -/

theorem setAutoCloseSecond_done {form n : Nat} (hf : form = 1) (hn : n ≤ 86399) (s : State) :
    setAutoCloseSecond form n s = (⟨.done, beBytes 3 n⟩, { s with sts := { s.sts with autoClose := some n } }) :=
  if_neg (not_or.2 ⟨not_not.2 hf, Nat.not_lt.2 hn⟩)

theorem setAutoCloseSecond_badValue {form n : Nat} (h : form ≠ 1 ∨ 86399 < n) (s : State) :
    setAutoCloseSecond form n s = (⟨.badValue, []⟩, s) :=
  if_pos h

/-- Settles O51: the bank's state, and the flag of the close that waits, tell the branches of RELEASE_BANK apart. -/
theorem banksAreReleased : Obligations.BanksAreReleased := by
  refine ⟨fun r s => ⟨fun h => ?_, fun form n h => ⟨fun hf hn => ?_, fun hbad => ?_⟩⟩,
    fun r n s h hinv => ⟨fun hn => serve_eq h _ (releaseBank_badValue hn), ?_⟩⟩
  · exact ⟨_, serve_eq h setAutoCloseOff rfl, State.deliver_sts _ _ _ _,
      ((sameBut_sts s _).mono (by simp)).deliver (by simp) r _ _, deliver_pct_congr (by rfl) r _ _⟩
  · exact ⟨_, serve_eq h _ (setAutoCloseSecond_done hf hn s), State.deliver_sts _ _ _ _,
      ((sameBut_sts s _).mono (by simp)).deliver (by simp) r _ _, deliver_pct_congr (by rfl) r _ _⟩
  · exact serve_eq h _ (setAutoCloseSecond_badValue hbad s)
  · rintro k rfl
    refine ⟨fun hk => serve_eq h _ (releaseBank_wrongState hk), fun q a b hk => ?_⟩
    have hactive := hinv.activeBank_of_collectable hk
    refine ⟨fun hd => ?_, fun hd p opened hopened => ?_⟩
    · refine ⟨_, serve_eq h _ ((releaseBank_collectable hk).trans (collectBank_empties hd)), ?_, ?_, ?_, ?_, ?_,
        ((bankEmptied_sameBut s k).mono (by simp)).deliver (by simp) r _ _, deliver_pct_congr (by rfl) r _ _⟩
      · rw [State.deliver_bank, bankEmptied_bank_self]
      · rw [State.deliver_bank, bankEmptied_bank_other]
      · rw [State.deliver_sts, bankEmptied_activeBank, hactive]
      · rw [State.deliver_sts, State.bankEmptied, State.setBank_closeDeferred, hd]
      · rw [State.deliver_sts, State.bankEmptied, State.setBank_autoClose]
    · obtain ⟨hswap, hpct⟩ := swapBanks_bankEmptied hactive hopened
      have hswapped := hswap.deliver r (.releaseBank r (bankCode k)) ⟨.done, [1] ++ swapBytes (otherBank k) p⟩
      have hother := otherBank_otherBank k
      have hbank := hswapped.opened
      rw [hother] at hbank
      refine ⟨_, serve_eq h _ ((releaseBank_collectable hk).trans (collectBank_swaps hd hactive hopened)), hbank,
        hswapped.closed, hswapped.active.trans hother, hswapped.notDeferred, hswapped.autoClose, hswapped.hru,
        hswapped.same, (deliver_pct_congr hpct r _ _).trans ?_⟩
      rw [swapBytes, hother]
      simp only [List.append_assoc]
      rfl

end Sys2Proof.Machine
end

section
/-! SUPPORT. Every command keeps exactly one bank ACTIVE, the period numbers one apart and the amounts in range (R132, R133, R135). -/

namespace Sys2Proof.Machine

open Sys2Proof (Instr)

section BankInv

variable {s t : State} {c : Instr}

/-! ### What the invariant reads -/

theorem State.BankInv.congr (h : s.BankInv) (hbank : ∀ k, t.bank k = s.bank k)
    (hactive : t.sts.activeBank = s.sts.activeBank) (hdeferred : t.sts.closeDeferred = s.sts.closeDeferred) :
    t.BankInv where
  active := by
    rw [hactive, hdeferred, hbank, hbank]
    exact h.active
  amounts k := by
    rw [hbank]
    exact h.amounts k

theorem State.BankInv.of_sts (h : s.BankInv) (hsts : t.sts = s.sts) : t.BankInv :=
  h.congr (fun k => by cases k <;> simp only [State.bank, hsts]) (by rw [hsts]) (by rw [hsts])

/-- The banks are STS's. -/
theorem State.SameBut.bankInv {bs : List Block} (hsame : s.SameBut bs t) (hb : Block.sts ∉ bs) (h : s.BankInv) :
    t.BankInv :=
  h.of_sts (hsame.sts.resolve_left hb)

/-! ### Accumulation (R136) -/

theorem accumulate_bankInv (h : s.BankInv) (leg : RatedLeg) : (accumulate leg s).BankInv where
  active := by
    rw [accumulate_state, accumulate_activeBank, accumulate_closeDeferred, accumulate_otherBank]
    exact h.active
  amounts k n := by
    rw [accumulate_record]
    split
    · exact addLeg_inv (h.amounts k n) leg
    · exact h.amounts k n

theorem accumulateLeg_bankInv (h : s.BankInv) (leg : Option RatedLeg) : (accumulateLeg leg s).BankInv := by
  cases leg with
  | none => exact h
  | some l => exact accumulate_bankInv h l

theorem releaseRated_bankInv (h : s.BankInv) (i : Nat) (r : CallRecord) : (releaseRated i r s).2.BankInv :=
  (freeCall_sameBut _ i r).bankInv (by decide) (accumulateLeg_bankInv (accumulateLeg_bankInv h _) _)

/-- A DISPLACED record has no leg to add; any other release is rated (R35, R37). -/
theorem releaseCall_bankInv (h : s.BankInv) (p : PortId) (i g : Nat) : (releaseCall p i g s).2.BankInv := by
  unfold releaseCall
  split
  · exact h
  split
  case h_4 =>
    exact (freeRecord_sameBut _ i).bankInv (by decide) ((freeInbound_sameBut s _).bankInv (by decide) h)
  all_goals exact releaseRated_bankInv h i _

/-! ### Closes (R137, R138) -/

/-- The bank that a swap closes is COLLECTABLE with the period before, and the one that it opens is empty. -/
theorem State.BanksSwapped.bankInv {k : BankId} {p : Nat} {since : Stamp} (h : s.BanksSwapped k p since t)
    (hp : p < Config.wrap16) (hamounts : ∀ n, ((s.bank k).record n).Inv) : t.BankInv where
  active := by
    refine ⟨(p + 1) % 65536, _, by rw [h.active, h.opened], Nat.mod_lt _ (by decide), ?_⟩
    rw [h.active, otherBank_otherBank, h.closed]
    exact ⟨hp, rfl⟩
  amounts k' n := by
    by_cases hk : k' = k
    · rw [hk, h.closed]
      exact hamounts n
    · rw [(ne_iff_eq_otherBank k k').1 (Ne.symm hk), h.opened]
      exact settlementRecordInv_zero

theorem mustDefer_iff (s : State) :
    mustDefer s = true ↔ ∃ q o c, (s.bank (otherBank s.sts.activeBank)).state = .collectable q o c := by
  unfold mustDefer
  split <;> simp [*]

/-- A deferred close waits behind a COLLECTABLE bank, of which the invariant asks nothing of the flag. -/
theorem State.CloseHeld.bankInv (h : s.CloseHeld t) (hd : mustDefer s = true) (hs : s.BankInv) : t.BankInv where
  active := by
    obtain ⟨q, o, c, hother⟩ := (mustDefer_iff s).1 hd
    obtain ⟨p, since, hactive, hp, hidle⟩ := hs.active
    refine ⟨p, since, by rw [h.active, h.banks, hactive], hp, ?_⟩
    rw [h.active, h.banks]
    simp only [idleBankOk, hother] at hidle ⊢
    exact hidle
  amounts k := by
    rw [h.banks]
    exact hs.amounts k

theorem performClose_bankInv (h : s.BankInv) : (performClose s).BankInv := by
  cases hd : mustDefer s with
  | true =>
    rw [performClose_defers hd]
    exact (deferClose_closeHeld s).bankInv hd h
  | false =>
    obtain ⟨p, since, hactive, hp, -⟩ := h.active
    rw [performClose_swaps hd]
    exact (swapBanks_banksSwapped hactive).bankInv hp (h.amounts _)

theorem closePeriod_bankInv (h : s.BankInv) : (closePeriod s).2.BankInv := by
  unfold closePeriod
  simp only
  split <;> exact performClose_bankInv h

theorem closeServed_bankInv (h : s.BankInv) : s.closeServed.BankInv := h.congr (State.closeServed_bank s) rfl rfl

theorem automaticClose_bankInv (hs : s.BankInv) (h : exec .automaticClose s = .next t) : t.BankInv := by
  cases hdue : s.sts.closeDue with
  | true =>
    rw [automaticClose_due hdue] at h
    exact next_inj h ▸ performClose_bankInv (closeServed_bankInv hs)
  | false =>
    rw [automaticClose_notDue hdue] at h
    exact next_inj h ▸ hs

/-! ### RELEASE_BANK (R142) -/

theorem bankEmptied_bankInv (h : s.BankInv) {k : BankId} (hactive : s.sts.activeBank = otherBank k)
    (hd : s.sts.closeDeferred = false) : (s.bankEmptied k).BankInv where
  active := by
    obtain ⟨p, since, hstate, hp, -⟩ := h.active
    rw [bankEmptied_activeBank, hactive, otherBank_otherBank, bankEmptied_bank_other, bankEmptied_bank_self, ← hactive]
    exact ⟨p, since, hstate, hp, rfl, (State.setBank_closeDeferred _ _ _).trans hd⟩
  amounts k' n := by
    rw [State.bankEmptied, State.setBank_bank]
    split
    · exact settlementRecordInv_zero
    · exact h.amounts k' n

theorem collectBank_bankInv (h : s.BankInv) {k : BankId} (hactive : s.sts.activeBank = otherBank k) :
    (collectBank k s).2.BankInv := by
  cases hd : s.sts.closeDeferred with
  | false =>
    rw [collectBank_empties hd]
    exact bankEmptied_bankInv h hactive hd
  | true =>
    obtain ⟨p, since, hstate, hp, -⟩ := h.active
    rw [hactive] at hstate
    rw [collectBank_swaps hd hactive hstate]
    exact (swapBanks_bankEmptied hactive hstate).1.bankInv hp (h.amounts _)

theorem releaseBank_bankInv (h : s.BankInv) (n : Nat) : (releaseBank n s).2.BankInv := by
  unfold releaseBank
  split
  · exact h
  split
  · rename_i hk
    exact collectBank_bankInv h (h.activeBank_of_collectable hk)
  all_goals exact h

/-! ### Settings and time -/

theorem autoClose_bankInv (h : s.BankInv) (v : Option Nat) :
    State.BankInv { s with sts := { s.sts with autoClose := v } } :=
  h.congr (fun k => by cases k <;> rfl) rfl rfl

theorem setAutoCloseSecond_bankInv (h : s.BankInv) (form n : Nat) : (setAutoCloseSecond form n s).2.BankInv := by
  unfold setAutoCloseSecond
  split
  · exact h
  · exact autoClose_bankInv h _

theorem tick_bankInv (h : s.BankInv) : (tick s).BankInv := h.congr (fun k => by cases k <;> rfl) rfl rfl

/-! ### Every command -/

theorem serve_bankInv {r : Requester} {f : State → Reply × State} (hs : s.BankInv) (hf : (f s).2.BankInv)
    (h : serve r c f s = .next t) : t.BankInv :=
  serve_keeps (P := State.BankInv) (fun u a hu => hu.of_sts (State.deliver_sts u r c a)) hs hf h

theorem exec_bankInv (hs : s.BankInv) (h : exec c s = .next t) : t.BankInv := by
  cases c with
  | powerOnReset pins =>
    obtain rfl := next_inj h
    exact reset_bankInv.of_sts rfl
  | millisecondTick => exact eventWhen_keeps (P := State.BankInv) hs (fun _ => tick_bankInv hs) h
  | release r i g => exact serve_bankInv hs (releaseCall_bankInv hs _ i g) h
  | closePeriod r => exact serve_bankInv hs (closePeriod_bankInv hs) h
  | automaticClose => exact automaticClose_bankInv hs h
  | setAutoCloseOff r => exact serve_bankInv hs (autoClose_bankInv hs none) h
  | setAutoCloseSecond r form n => exact serve_bankInv hs (setAutoCloseSecond_bankInv hs form n) h
  | releaseBank r n => exact serve_bankInv hs (releaseBank_bankInv hs n) h
  | _ => exact (exec_sameBut h).bankInv (by simp [touches]) hs

end BankInv

/-- Settles O55: of the commands that touch STS, a leg writes amounts of the ACTIVE bank alone, a close turns the banks about or waits behind a COLLECTABLE one, and a release empties the bank that is not ACTIVE. -/
theorem stepsKeepOneBankActive : Obligations.StepsKeepOneBankActive := by
  intro s t hs h
  unfold step at h
  split at h
  · exact next_inj h ▸ hs
  · rename_i c rest _
    exact exec_bankInv (s := { s with pending := rest }) (hs.of_sts rfl) h

end Sys2Proof.Machine
end

section
/-! SUPPORT. READ_TIME and IDENTIFY (R153, R184): what each reports, and the roles that may issue them. -/

namespace Sys2Proof.Machine

open Sys2Proof

/-- The vendor code, the part number and the revision, as IDENTIFY codes them (R184). -/
theorem identity_bytes : beBytes 2 0x4B56 ++ beBytes 2 3640 ++ beBytes 1 1 = [0x4B, 0x56, 0x0E, 0x38, 0x01] := by decide

theorem permits_readTime_iff (role : Role) : permits .readTime role = true ↔ role ≠ .off := decide_eq_true_iff

theorem permits_identify_iff (role : Role) : permits .identify role = true ↔ role ≠ .off := decide_eq_true_iff

/-- Settles O15: both parts leave the state as it is, so the delivery of what they report is all that takes place. -/
theorem timeAndIdentityAreReported : Obligations.TimeAndIdentityAreReported := by
  refine ⟨fun r s h => serve_read (f := readTime) h rfl, fun r s h => ?_,
    fun role => ⟨permits_readTime_iff role, permits_identify_iff role⟩⟩
  rw [← identity_bytes]
  exact serve_read (f := identify r.port) h rfl

end Sys2Proof.Machine
end

section
/-! SUPPORT. What each command does to the times of a port: since when its line has been GOOD, since when its head is head, and when its link is due to go UP (R158, R159). -/

namespace Sys2Proof.Machine

open Sys2Proof

/-! ### One port -/

/-- The link of port `q` is not due to go UP before time `now` (R159). -/
def Port.LinkInTime (now : Nat) (q : Port) : Prop :=
  q.role ≠ .off → q.link = .down → q.line = .good → now ≤ q.goodSince + Config.linkUpDelay

/-- From `q` to `q'`, at running time `now`, a port takes no time that is to come, and its link has not been due to go UP before. -/
structure Port.KeepsTimes (now : Nat) (q q' : Port) : Prop where
  goodSince : q.goodSince ≤ now → q'.goodSince ≤ now
  headAt : q.headAt ≤ now → q'.headAt ≤ now
  link : q.LinkInTime now → q'.LinkInTime now

section OnePort

variable {now : Nat} {q q' q'' : Port}

theorem Port.KeepsTimes.refl (now : Nat) (q : Port) : q.KeepsTimes now q := ⟨id, id, id⟩

theorem Port.KeepsTimes.trans (h : q.KeepsTimes now q') (h' : q'.KeepsTimes now q'') : q.KeepsTimes now q'' :=
  ⟨h'.goodSince ∘ h.goodSince, h'.headAt ∘ h.headAt, h'.link ∘ h.link⟩

theorem Port.Quiet.keepsTimes (h : q.Quiet q') : q.KeepsTimes now q' := by
  obtain ⟨_, _, _, _, _, _, rfl⟩ := h.same
  exact ⟨id, id, id⟩

theorem answerHead_keepsTimes (a : Reply) (q : Port) : q.KeepsTimes now (answerHead a q) := by
  rcases answerHead_spec a q with ⟨-, heq⟩ | ⟨_, _, -, heq⟩ <;> rw [heq] <;> exact ⟨id, id, id⟩

/-- A request that becomes head becomes so now (R165). -/
theorem checkHead_keepsTimes (now : Nat) (q : Port) : q.KeepsTimes now (checkHead now q) := by
  cases hf : q.fifo with
  | nil => exact checkHead_nil hf now ▸ ⟨id, id, id⟩
  | cons h rest =>
    cases hr : headRefusal q.role h with
    | some e => exact checkHead_refused hf hr now ▸ ⟨id, fun _ => Nat.le_refl _, id⟩
    | none => exact checkHead_passed hf hr now ▸ ⟨id, fun _ => Nat.le_refl _, id⟩

theorem takeRequest_keepsTimes (h : Request) (q : Port) : q.KeepsTimes now (takeRequest now h q) := by
  unfold takeRequest
  split
  · have hjoin : q.KeepsTimes now { q with fifo := q.fifo ++ [h] } := ⟨id, id, id⟩
    simp only
    split
    · exact hjoin.trans (checkHead_keepsTimes now _)
    · exact hjoin
  · unfold holdRequest
    split
    · exact ⟨id, id, id⟩
    · exact .refl now q

theorem receiveFrame_keepsTimes (bytes : List Byte) (stopFault : Bool) (q : Port) :
    q.KeepsTimes now (receiveFrame now bytes stopFault q) := by
  unfold receiveFrame
  split
  · exact .refl now q
  split
  · exact takeRequest_keepsTimes _ q
  · exact ⟨id, id, id⟩

theorem sendReply_keepsTimes (now : Nat) (q : Port) : q.KeepsTimes now (sendReply now q) := by
  unfold sendReply
  split
  · exact .refl now q
  split
  · exact ⟨id, id, id⟩
  · rename_i rest _ _
    have hdrop : q.KeepsTimes now { q with replies := rest, fifo := q.fifo.tail } := ⟨id, id, id⟩
    exact hdrop.trans (checkHead_keepsTimes now _)

/-- A LOST line takes no link up. -/
theorem lineLost_keepsTimes (now : Nat) (q : Port) : q.KeepsTimes now (lineLost now q) := by
  unfold lineLost
  split <;> exact ⟨id, id, fun _ _ _ hline => by cases hline⟩

/-- The count of R159 begins when the line becomes GOOD. -/
theorem lineGood_keepsTimes (now : Nat) (q : Port) : q.KeepsTimes now { q with line := .good, goodSince := now } :=
  ⟨fun _ => Nat.le_refl _, id, fun _ _ _ _ => Nat.le_add_right _ _⟩

/-- A link that is UP is not due to go UP. -/
theorem linkUp_keepsTimes (now : Nat) (q : Port) :
    q.KeepsTimes now (attended { q with link := .up, fifo := [], stage := .noHead, replies := [] }) :=
  ⟨id, id, fun _ _ hdown _ => by cases hdown⟩

end OnePort

/-! ### Every port -/

/-- No port takes a time that is to come, and no link has been due to go UP before. -/
def State.KeepsPortTimes (s t : State) : Prop := ∀ p, (s.port p).KeepsTimes s.now (t.port p)

section EveryPort

variable {s t u : State} {c : Instr}

theorem State.KeepsPortTimes.refl (s : State) : s.KeepsPortTimes s := fun p => .refl s.now (s.port p)

theorem State.Quiet.keepsPortTimes (h : s.Quiet t) : s.KeepsPortTimes t := fun p => (h p).keepsTimes

theorem setPort_keepsPortTimes {p : PortId} {q : Port} (h : (s.port p).KeepsTimes s.now q) :
    s.KeepsPortTimes (s.setPort p q) := fun p' => by
  rw [State.setPort_port]
  split
  · rename_i hp
    exact hp ▸ h
  · exact .refl _ _

theorem eventWhen_keepsPortTimes {due : Bool} {f : State → State} (hf : s.KeepsPortTimes (f s))
    (h : eventWhen due f s = .next t) : s.KeepsPortTimes t :=
  eventWhen_keeps (P := s.KeepsPortTimes) (.refl s) (fun _ => hf) h

/-- A request's reply changes the head stage and the reply list, or discards a detached request (R160, R167). -/
theorem serve_keepsPortTimes {r : Requester} {f : State → Reply × State} (hf : s.Quiet (f s).2)
    (h : serve r c f s = .next t) : s.KeepsPortTimes t := by
  refine serve_keeps (P := s.KeepsPortTimes) (fun u a hu p => (hu p).trans ?_) (.refl s) hf.keepsPortTimes h
  rw [deliver_port]
  split
  · cases r with
    | head p' => exact answerHead_keepsTimes a _
    | detached p' => exact ⟨id, id, id⟩
  · exact .refl _ _

/-! The requests: each is its block's part, which touches no more of the ports than their notices, masks and flags, and the delivery of the reply. -/

/-- In `s` the command `c` is a request served by a part that leaves the ports quiet. -/
def State.ServesQuietly (s : State) (c : Instr) : Prop :=
  ∃ (r : Requester) (f : State → Reply × State), exec c s = serve r c f s ∧ s.Quiet (f s).2

theorem servesQuietly_of_sameBut {r : Requester} {f : State → Reply × State} {bs : List Block}
    (hf : s.SameBut bs (f s).2) (hb : Block.pct ∉ bs) (hexec : exec c s = serve r c f s) : s.ServesQuietly c :=
  ⟨r, f, hexec, hf.quiet hb⟩

theorem servesQuietly_of_read {r : Requester} {f : State → Reply × State} (hf : (f s).2 = s)
    (hexec : exec c s = serve r c f s) : s.ServesQuietly c :=
  ⟨r, f, hexec, hf.symm ▸ .refl s⟩

/-- A block's part in a request touches the ports by notices, a mask or flags alone, if at all. -/
theorem exec_servesQuietly (hc : c.requester? ≠ none) (s : State) : s.ServesQuietly c := by
  cases c with
  | powerOnReset _ | millisecondTick | lineIndicationLost _ | lineIndicationGood _ | linkUp _ | frameArrival _ _ _
  | engineGrant | replySent _ | guardExpiry _ | gapExpiry _ | restrictionEnd _ | periodEnd | automaticClose =>
    exact absurd rfl hc
  | route r d n inb => exact ⟨_, _, rfl, routeCall_quiet s _ _ _ _⟩
  | confirm r i g => exact servesQuietly_of_sameBut (confirmCall_sameBut s _ _ _) (by decide) rfl
  | answer r i g => exact servesQuietly_of_sameBut (answerCall_sameBut s _ _ _) (by decide) rfl
  | release r i g => exact ⟨_, _, rfl, releaseCall_quiet s _ _ _⟩
  | reroute r i g => exact ⟨_, _, rfl, rerouteCall_quiet s _ _ _⟩
  | queryCall r i g => exact servesQuietly_of_read (queryCall_state s _ _) rfl
  | setGuard r n => exact servesQuietly_of_sameBut (sameBut_crt s _) (by decide) rfl
  | adoptPort r f u => exact ⟨_, _, rfl, adoptPort_quiet s _ _⟩
  | exchangeRestart r => exact servesQuietly_of_sameBut (exchangeRestart_sameBut s) (by decide) rfl
  | defineGroupDefine r g a => exact servesQuietly_of_sameBut (defineGroup_sameBut s _ _) (by decide) rfl
  | defineGroupRemove r g f => exact servesQuietly_of_sameBut (removeGroup_sameBut s _ _) (by decide) rfl
  | setGroupStateBlock r g => exact servesQuietly_of_sameBut (blockGroup_sameBut s _) (by decide) rfl
  | setGroupStateUnblock r g f => exact servesQuietly_of_sameBut (unblockGroup_sameBut s _ _) (by decide) rfl
  | setReserve r g n => exact servesQuietly_of_sameBut (setReserve_sameBut s _ _) (by decide) rfl
  | circuitMaintOut r c => exact servesQuietly_of_sameBut (circuitOut_sameBut s _) (by decide) rfl
  | circuitMaintReturn r c f => exact servesQuietly_of_sameBut (circuitReturn_sameBut s _ _) (by decide) rfl
  | readGroupSummary r g f => exact servesQuietly_of_read (readGroupSummary_state s _ _) rfl
  | readGroupCircuit r g a n => exact servesQuietly_of_read (readGroupCircuit_state s _ _ _) rfl
  | readGroupFreeList r g a n => exact servesQuietly_of_read (readGroupFreeList_state s _ _ _) rfl
  | writeDest r d f l => exact servesQuietly_of_sameBut (writeDest_sameBut s _ _ _) (by decide) rfl
  | writeRouteSet r n l => exact servesQuietly_of_sameBut (writeRouteSet_sameBut s _ _) (by decide) rfl
  | maskChoice r d i m => exact servesQuietly_of_sameBut (maskChoice_sameBut s _ _ _) (by decide) rfl
  | setFirst r d i => exact servesQuietly_of_sameBut (setFirst_sameBut s _ _) (by decide) rfl
  | readDestDestination r d => exact servesQuietly_of_read (readDest_state s _) rfl
  | readDestRouteSet r f n => exact servesQuietly_of_read (readRouteSet_state s _ _) rfl
  | farCongestion r d g n => exact servesQuietly_of_sameBut (farCongestion_sameBut s _ _ _) (by decide) rfl
  | farClear r d => exact ⟨_, _, rfl, farClear_quiet s _⟩
  | writeProfile r n p => exact servesQuietly_of_sameBut (writeProfile_sameBut s _ _) (by decide) rfl
  | setPeriod r n => exact servesQuietly_of_sameBut (setPeriod_sameBut s _) (by decide) rfl
  | readCongestionGroup r a n => exact servesQuietly_of_sameBut (readCongestion_sameBut s _ _) (by decide) rfl
  | readCongestionProfile r n => exact servesQuietly_of_read (readProfile_state s _) rfl
  | readCongestionPeriod r f => exact servesQuietly_of_read (readPeriod_state s _) rfl
  | writeLocalOffer r c l => exact ⟨_, _, rfl, writeLocalOffer_quiet s _ _⟩
  | writeCarrierOffer r c l => exact ⟨_, _, rfl, writeCarrierOffer_quiet s _ _⟩
  | confirmAgreement r c n => exact ⟨_, _, rfl, confirmAgreement_quiet s _ _⟩
  | withdrawAgreement r c => exact ⟨_, _, rfl, withdrawAgreement_quiet s _⟩
  | readAgreement r a n => exact servesQuietly_of_read (readAgreement_state s _ _) rfl
  | writeTariff r c n v => exact servesQuietly_of_sameBut (writeTariff_sameBut s _ _ _) (by decide) rfl
  | writeBands r l => exact servesQuietly_of_sameBut (writeBands_sameBut s _) (by decide) rfl
  | readTariffClass r k c n => exact servesQuietly_of_read (readTariffClass_state s _ _ _) rfl
  | readTariffBand r f k => exact servesQuietly_of_read (readTariffBand_state s _ _) rfl
  | closePeriod r => exact ⟨_, _, rfl, closePeriod_quiet s⟩
  | setAutoCloseOff r => exact servesQuietly_of_sameBut (sameBut_sts s _) (by decide) rfl
  | setAutoCloseSecond r f n => exact servesQuietly_of_sameBut (setAutoCloseSecond_sameBut s _ _) (by decide) rfl
  | readBank r k a n => exact servesQuietly_of_read (readBank_state s _ _ _) rfl
  | releaseBank r k => exact ⟨_, _, rfl, releaseBank_quiet s _⟩
  | setTime r d n m => exact servesQuietly_of_sameBut (setTime_sameBut s _ _ _) (by decide) rfl
  | readTime r => exact servesQuietly_of_read rfl rfl
  | takeNotices r => exact ⟨_, _, rfl, setPort_quiet (dropNotices_quiet _ _)⟩
  | setNoticeMask r m => exact ⟨_, _, rfl, setNoticeMask_quiet s _ _⟩
  | portStatus r n => exact ⟨_, _, rfl, portStatus_quiet s _ _⟩
  | identify r => exact servesQuietly_of_read rfl rfl

/-! The events. -/

theorem execGuardExpiry_quiet {i : Nat} (h : execGuardExpiry i s = .next t) : s.Quiet t := by
  unfold execGuardExpiry at h
  split at h
  · exact next_inj h ▸ .refl s
  · exact eventWhen_keeps (P := s.Quiet) (.refl s) (fun _ => expireCall_quiet s _ _) h

/-- A grant changes the stage of the head alone (R58). -/
theorem execEngineGrant_keepsPortTimes (h : execEngineGrant s = .next t) : s.KeepsPortTimes t := by
  rcases execEngineGrant_cases h with rfl | ⟨p, -, -, rfl⟩
  · exact .refl t
  · intro p'
    rw [grant_port]
    split
    · rename_i hp
      exact hp ▸ ⟨id, id, id⟩
    · exact .refl _ _

/-- Every command but the reset, which sets the times to 0, keeps the times of every port. -/
theorem exec_keepsPortTimes (hc : ∀ pins, c ≠ .powerOnReset pins) (h : exec c s = .next t) : s.KeepsPortTimes t := by
  have hrequest : c.requester? ≠ none → s.ServesQuietly c := fun hr => exec_servesQuietly hr s
  cases c with
  | powerOnReset pins => exact absurd rfl (hc pins)
  | millisecondTick => exact eventWhen_keepsPortTimes ((tick_sameBut s).quiet (by decide)).keepsPortTimes h
  | lineIndicationLost p =>
    rw [exec, execLineIndicationLost] at h
    exact eventWhen_keepsPortTimes (setPort_keepsPortTimes (lineLost_keepsTimes _ _)) h
  | lineIndicationGood p =>
    rw [exec, execLineIndicationGood] at h
    exact eventWhen_keepsPortTimes (setPort_keepsPortTimes (lineGood_keepsTimes _ _)) h
  | linkUp p =>
    rw [exec, execLinkUp] at h
    exact eventWhen_keepsPortTimes (setPort_keepsPortTimes (linkUp_keepsTimes _ _)) h
  | frameArrival p bytes stopFault => exact next_inj h ▸ setPort_keepsPortTimes (receiveFrame_keepsTimes _ _ _)
  | engineGrant => exact execEngineGrant_keepsPortTimes h
  | replySent p => exact next_inj h ▸ setPort_keepsPortTimes (sendReply_keepsTimes _ _)
  | guardExpiry i => exact (execGuardExpiry_quiet h).keepsPortTimes
  | gapExpiry d => exact next_inj h ▸ .refl s
  | restrictionEnd d => exact eventWhen_keepsPortTimes (openDest_quiet s d).keepsPortTimes h
  | periodEnd => exact eventWhen_keepsPortTimes (endPeriod_quiet s).keepsPortTimes h
  | automaticClose =>
    rw [exec, execAutomaticClose] at h
    have hclear := (closeServed_sameBut s).quiet (by decide)
    exact eventWhen_keepsPortTimes (hclear.trans (performClose_quiet _)).keepsPortTimes h
  | _ =>
    obtain ⟨r, f, hexec, hf⟩ := hrequest nofun
    exact serve_keepsPortTimes hf (hexec.symm.trans h)

end EveryPort

end Sys2Proof.Machine
end

section
/-! SUPPORT. What each command does to the times that stand to be reached: guard deadlines (R28, R31, R38, R40), the ends of restrictions (R73, R74, R77) and the period end (R86). A command sets such a time to one that is not past, or leaves it. -/

namespace Sys2Proof.Machine

open Sys2Proof

/-- The running time is TMB's. -/
theorem State.SameBut.now {bs : List Block} {s t : State} (h : s.SameBut bs t) (hb : Block.tmb ∉ bs) : t.now = s.now :=
  congrArg TimeBase.running (h.tmb.resolve_left hb)

/-! ### Guard deadlines -/

/-- No live record of `s` has a guard deadline before time `now`. -/
def State.GuardsFrom (now : Nat) (s : State) : Prop :=
  ∀ i x d, s.call i = some x → x.deadline = some d → now ≤ d

section Guards

variable {now : Nat} {s t : State} {c : Instr}

theorem State.GuardsFrom.of_call (h : s.GuardsFrom now) (hcall : ∀ i, t.call i = s.call i) : t.GuardsFrom now :=
  fun i x d hx => h i x d ((hcall i).symm.trans hx)

theorem State.GuardsFrom.of_crt (h : s.GuardsFrom now) (hcrt : t.crt = s.crt) : t.GuardsFrom now :=
  h.of_call fun i => by rw [State.call, State.call, hcrt]

theorem State.SameBut.guardsFrom {bs : List Block} (hsame : s.SameBut bs t) (hb : Block.crt ∉ bs)
    (h : s.GuardsFrom now) : t.GuardsFrom now :=
  h.of_crt (hsame.crt.resolve_left hb)

theorem setCall_guardsFrom (h : s.GuardsFrom now) {x : CallRecord} (hx : ∀ d, x.deadline = some d → now ≤ d) (i : Nat) :
    (s.setCall i (some x)).GuardsFrom now := fun j y d hy hd => by
  rw [State.setCall_call] at hy
  split at hy
  · obtain rfl := Option.some.inj hy
    exact hx d hd
  · exact h j y d hy hd

/-- A deadline that is set now is not past (R28, R31, R38). -/
theorem now_le_guardDeadline (s : State) : s.now ≤ s.guardDeadline := Nat.le_add_right _ _

/-- A record with a deadline set now. -/
theorem setCall_guardsFrom_of_now (h : s.GuardsFrom now) {u : State} (hnow : now ≤ u.now) {x : CallRecord}
    (hx : x.deadline = some u.guardDeadline) (i : Nat) : (s.setCall i (some x)).GuardsFrom now :=
  setCall_guardsFrom h (fun d hd => by
    obtain rfl := Option.some.inj (hx.symm.trans hd)
    exact hnow.trans (now_le_guardDeadline u)) i

theorem freeRecord_guardsFrom (h : s.GuardsFrom now) (i : Nat) : (freeRecord i s).GuardsFrom now := fun j x d hx => by
  rw [freeRecord_call] at hx
  split at hx
  · cases hx
  · exact h j x d hx

theorem freeCall_guardsFrom (h : s.GuardsFrom now) (i : Nat) (r : CallRecord) : (freeCall i r s).GuardsFrom now :=
  freeRecord_guardsFrom ((freeInbound_sameBut _ r).guardsFrom (by decide)
    ((freeOutbound_sameBut s r).guardsFrom (by decide) h)) i

theorem confirmCall_guardsFrom (h : s.GuardsFrom now) (p : PortId) (i g : Nat) :
    (confirmCall p i g s).2.GuardsFrom now := by
  unfold confirmCall
  split
  · exact h
  split
  · exact (holdOutbound_sameBut _ _).guardsFrom (by decide) (setCall_guardsFrom h (fun _ hd => by cases hd) i)
  all_goals exact h

theorem answerCall_guardsFrom (h : s.GuardsFrom now) (p : PortId) (i g : Nat) :
    (answerCall p i g s).2.GuardsFrom now := by
  unfold answerCall
  split
  · exact h
  rename_i x hf
  obtain ⟨-, hx, -⟩ := findOwnCall_ok hf
  split
  · refine setCall_guardsFrom h (fun d hd => ?_) i
    exact h i x d hx hd
  all_goals exact h

theorem releaseRated_guardsFrom (h : s.GuardsFrom now) (i : Nat) (r : CallRecord) :
    (releaseRated i r s).2.GuardsFrom now :=
  freeCall_guardsFrom ((accumulateLeg_sameBut _ _).guardsFrom (by decide)
    ((accumulateLeg_sameBut s _).guardsFrom (by decide) h)) i r

theorem releaseCall_guardsFrom (h : s.GuardsFrom now) (p : PortId) (i g : Nat) :
    (releaseCall p i g s).2.GuardsFrom now := by
  unfold releaseCall
  split
  · exact h
  split
  case h_4 => exact freeRecord_guardsFrom ((freeInbound_sameBut s _).guardsFrom (by decide) h) i
  all_goals exact releaseRated_guardsFrom h i _

theorem expireCall_guardsFrom (h : s.GuardsFrom now) (i : Nat) (r : CallRecord) : (expireCall i r s).GuardsFrom now :=
  (freeCall_guardsFrom h i r).of_crt rfl

theorem execGuardExpiry_guardsFrom (h : s.GuardsFrom now) {i : Nat} (he : execGuardExpiry i s = .next t) :
    t.GuardsFrom now := by
  unfold execGuardExpiry at he
  split at he
  · exact next_inj he ▸ h
  · exact eventWhen_keeps (P := State.GuardsFrom now) h (fun _ => expireCall_guardsFrom h i _) he

/-- A record that is adopted keeps its deadline (R43). -/
theorem adoptRecord_deadline (f u : PortId) (x : CallRecord) : (adoptRecord f u x).deadline = x.deadline := by
  unfold adoptRecord
  split <;> rfl

theorem adoptPort_guardsFrom (h : s.GuardsFrom now) (f u : Nat) : (adoptPort f u s).2.GuardsFrom now := by
  unfold adoptPort
  split
  · split
    · exact h
    · intro i x d hx hd
      rw [adoptCalls_call] at hx
      obtain ⟨y, hy, rfl⟩ := Option.map_eq_some_iff.1 hx
      exact h i y d hy ((adoptRecord_deadline _ _ y).symm.trans hd)
  · exact h

theorem displace_guardsFrom (h : s.GuardsFrom now) (hnow : now ≤ s.now) (c : Nat) : (displace c s).GuardsFrom now := by
  unfold displace
  split
  · exact h
  split
  · exact h
  · exact (setCall_guardsFrom_of_now h hnow (by rfl) _).of_crt rfl

theorem completeRoute_guardsFrom (h : s.GuardsFrom now) (hnow : now ≤ s.now) (p : PortId) (d : Nat) (cls : CallClass)
    (plan : InboundPlan) (i : Nat) (w : Winner) : (completeRoute p d cls plan i w s).2.GuardsFrom now := by
  have htaken := (outboundHunt_sameBut _ w.group w.circuit).guardsFrom (by decide)
    ((takeInbound_sameBut s plan).guardsFrom (by decide) h)
  exact (setCall_guardsFrom_of_now (x := routedRecord s p d cls plan w) htaken hnow rfl i).of_call fun _ => rfl

theorem routeWith_guardsFrom (h : s.GuardsFrom now) (hnow : now ≤ s.now) (p : PortId) (d : Nat) (cls : CallClass)
    (plan : InboundPlan) (i : Nat) : (routeWith p d cls plan i s).2.GuardsFrom now := by
  unfold routeWith
  split <;> rename_i he <;> have hcount := selectRoute_counted he <;> have hsel := h.of_crt hcount.crt
  · exact (dropInbound_sameBut _ plan).guardsFrom (by decide) hsel
  · exact completeRoute_guardsFrom hsel (hnow.trans (hcount.same.now (by decide)).ge) p d cls plan i _

theorem routeCall_guardsFrom (h : s.GuardsFrom now) (hnow : now ≤ s.now) (p : PortId) (d n : Nat) (inb : Option Nat) :
    (routeCall p d n inb s).2.GuardsFrom now := by
  unfold routeCall
  split
  · exact h
  split
  · exact h
  split
  · exact h
  unfold routeInbound
  split
  · exact routeWith_guardsFrom h hnow p d _ _ _
  split
  · exact h
  · exact routeWith_guardsFrom h hnow p d _ _ _
  · refine routeWith_guardsFrom (displace_guardsFrom h hnow _) (hnow.trans ?_) p d _ _ _
    exact ((displace_sameBut s _).now (by decide)).ge

theorem completeReroute_guardsFrom (h : s.GuardsFrom now) (hnow : now ≤ s.now) (i g : Nat) (r : CallRecord)
    (w : Winner) : (completeReroute i g r w s).2.GuardsFrom now := by
  have htaken := (outboundHunt_sameBut s w.group w.circuit).guardsFrom (by decide) h
  exact (setCall_guardsFrom_of_now (x := reroutedRecord s r w) htaken hnow rfl i).of_call fun _ => rfl

theorem rerouteCall_guardsFrom (h : s.GuardsFrom now) (hnow : now ≤ s.now) (p : PortId) (i g : Nat) :
    (rerouteCall p i g s).2.GuardsFrom now := by
  unfold rerouteCall
  split
  · exact h
  split
  · unfold rerouteRecord
    split <;> rename_i he <;> have hcount := selectRoute_counted he <;> have hsel := h.of_crt hcount.crt
    · exact hsel
    · exact completeReroute_guardsFrom hsel (hnow.trans (hcount.same.now (by decide)).ge) i g _ _
  all_goals exact h

theorem serve_guardsFrom {r : Requester} {f : State → Reply × State} (h : s.GuardsFrom now)
    (hf : (f s).2.GuardsFrom now) (he : serve r c f s = .next t) : t.GuardsFrom now :=
  serve_keeps (P := State.GuardsFrom now) (fun u a hu => hu.of_crt (State.deliver_crt u r c a)) h hf he

/-- Every command frees a record, keeps its deadline, or sets one from now on. -/
theorem exec_guardsFrom (h : s.GuardsFrom now) (hnow : now ≤ s.now) (he : exec c s = .next t) : t.GuardsFrom now := by
  cases c with
  | powerOnReset pins =>
    obtain rfl := next_inj he
    exact fun _ _ _ hx => by cases hx
  | route r d n inb => exact serve_guardsFrom h (routeCall_guardsFrom h hnow _ d n inb) he
  | reroute r i g => exact serve_guardsFrom h (rerouteCall_guardsFrom h hnow _ i g) he
  | confirm r i g => exact serve_guardsFrom h (confirmCall_guardsFrom h _ i g) he
  | answer r i g => exact serve_guardsFrom h (answerCall_guardsFrom h _ i g) he
  | release r i g => exact serve_guardsFrom h (releaseCall_guardsFrom h _ i g) he
  | guardExpiry i => exact execGuardExpiry_guardsFrom h he
  | setGuard r n => exact serve_guardsFrom h (h.of_call fun _ => rfl) he
  | adoptPort r f u => exact serve_guardsFrom h (adoptPort_guardsFrom h f u) he
  | exchangeRestart r => exact serve_guardsFrom h (fun _ _ _ hx => by cases hx) he
  | _ => exact (exec_sameBut he).guardsFrom (by simp [touches]) h

end Guards

/-! ### The ends of restrictions -/

/-- No restriction of `s` ends before time `now`. -/
def State.EndsFrom (now : Nat) (s : State) : Prop := ∀ n x, (s.dest n).restriction = some x → now ≤ x.endTime

section Ends

variable {now : Nat} {s t : State} {c : Instr}

theorem State.EndsFrom.of_dest (h : s.EndsFrom now) (hdest : ∀ n, t.dest n = s.dest n) : t.EndsFrom now :=
  fun n x hx => h n x (hdest n ▸ hx)

theorem setDest_endsFrom (h : s.EndsFrom now) {d : Dest} (hd : ∀ x, d.restriction = some x → now ≤ x.endTime)
    (n : Nat) : (s.setDest n d).EndsFrom now := fun n' x hx => by
  rw [State.setDest_dest] at hx
  split at hx
  · exact hd x hx
  · exact h n' x hx

/-- A destination rewritten with its restriction kept. -/
theorem setDest_endsFrom_of_eq (h : s.EndsFrom now) {d : Dest} {n : Nat}
    (hd : d.restriction = (s.dest n).restriction) : (s.setDest n d).EndsFrom now :=
  setDest_endsFrom h (fun x hx => h n x (hd.symm.trans hx)) n

theorem writeDest_endsFrom (h : s.EndsFrom now) (n : Nat) (rotate : Byte) (l : List ChoiceArg) :
    (writeDest n rotate l s).2.EndsFrom now := by
  unfold writeDest
  split
  · exact h
  split
  · exact h
  · exact setDest_endsFrom_of_eq h rfl

theorem writeRouteSet_endsFrom (h : s.EndsFrom now) (n : Nat) (entries : List SetEntryArg) :
    (writeRouteSet n entries s).2.EndsFrom now := by
  unfold writeRouteSet
  split
  · exact h
  · exact h.of_dest fun _ => rfl

theorem maskChoice_endsFrom (h : s.EndsFrom now) (n i m : Nat) : (maskChoice n i m s).2.EndsFrom now := by
  unfold maskChoice
  split
  · exact h
  split
  · exact h
  · exact setDest_endsFrom_of_eq h rfl

theorem setFirst_endsFrom (h : s.EndsFrom now) (n i : Nat) : (setFirst n i s).2.EndsFrom now := by
  unfold setFirst
  split
  · exact h
  split
  · exact h
  split
  · exact setDest_endsFrom_of_eq h rfl
  · exact h

/-- A report's restriction ends now or later (R73, R74). -/
theorem now_le_reportedRestriction (time g d : Nat) (old : Option Restriction) :
    time ≤ (reportedRestriction time g d old).endTime := by
  cases old with
  | none => exact Nat.le_add_right _ _
  | some y =>
    unfold reportedRestriction
    simp only
    split <;> exact (Nat.le_add_right _ _).trans (le_max_right _ _)

theorem farCongestion_endsFrom (h : s.EndsFrom now) (hnow : now ≤ s.now) (n gap dur : Nat) :
    (farCongestion n gap dur s).2.EndsFrom now := by
  unfold farCongestion
  split
  · exact h
  · refine setDest_endsFrom h (fun x hx => ?_) n
    obtain rfl := Option.some.inj hx
    exact hnow.trans (now_le_reportedRestriction _ _ _ _)

theorem openDest_endsFrom (h : s.EndsFrom now) (n : Nat) : (openDest n s).EndsFrom now :=
  (setDest_endsFrom h (fun _ hx => by cases hx) n).of_dest fun _ => rfl

theorem farClear_endsFrom (h : s.EndsFrom now) (n : Nat) : (farClear n s).2.EndsFrom now := by
  unfold farClear
  split
  · exact h
  split
  · exact h
  · exact openDest_endsFrom h n

/-- An admission leaves the end of a restriction (R76). -/
theorem State.SettledBy.endsFrom {n : Nat} {cls : CallClass} {w : Winner} (h : s.EndsFrom now)
    (hset : s.SettledBy n cls w t) : t.EndsFrom now := fun n' x hx => by
  by_cases hne : n' = n
  · subst hne
    have hp := hset.placed
    cases hold : (s.dest n').restriction with
    | none => exact absurd (hx.symm.trans (hp.opened hold)) nofun
    | some y =>
      rcases hp.restriction hold with hy | ⟨-, -, hy⟩ <;> obtain rfl := Option.some.inj (hy.symm.trans hx)
      all_goals exact h n' y hold
  · exact h n' x (hset.dest_ne hne ▸ hx)

theorem serve_endsFrom {r : Requester} {f : State → Reply × State} (h : s.EndsFrom now)
    (hf : (f s).2.EndsFrom now) (he : serve r c f s = .next t) : t.EndsFrom now :=
  serve_keeps (P := State.EndsFrom now) (fun u a hu => hu.of_dest (State.deliver_dest u r c a)) h hf he

/-- Every command ends a restriction, keeps its end, or sets one from now on. -/
theorem exec_endsFrom (h : s.EndsFrom now) (hnow : now ≤ s.now) (he : exec c s = .next t) : t.EndsFrom now := by
  cases c with
  | powerOnReset pins =>
    obtain rfl := next_inj he
    exact fun _ _ hx => by cases hx
  | engineGrant =>
    rcases execEngineGrant_cases he with rfl | ⟨p, -, -, rfl⟩
    · exact h
    · exact h.of_dest fun _ => rfl
  | route r d n inb =>
    rcases exec_route_rse_cases he with hrse | ⟨cls, w, -, hset⟩
    · exact h.of_dest (dest_congr hrse)
    · exact hset.endsFrom h
  | reroute r i g =>
    rcases exec_reroute_rse_cases he with hrse | ⟨x, w, -, hset⟩
    · exact h.of_dest (dest_congr hrse)
    · exact hset.endsFrom h
  | writeDest r n f l => exact serve_endsFrom h (writeDest_endsFrom h n f l) he
  | writeRouteSet r n l => exact serve_endsFrom h (writeRouteSet_endsFrom h n l) he
  | maskChoice r n i m => exact serve_endsFrom h (maskChoice_endsFrom h n i m) he
  | setFirst r n i => exact serve_endsFrom h (setFirst_endsFrom h n i) he
  | farCongestion r n g d => exact serve_endsFrom h (farCongestion_endsFrom h hnow n g d) he
  | farClear r n => exact serve_endsFrom h (farClear_endsFrom h n) he
  | restrictionEnd n => exact eventWhen_keeps (P := State.EndsFrom now) h (fun _ => openDest_endsFrom h n) he
  | _ => exact h.of_dest (dest_congr ((exec_sameBut he).rse.resolve_left (by simp [touches])))

end Ends

/-! ### The period end -/

section Period

variable {s t : State} {c : Instr}

theorem selectRoute_nextPeriodEnd (s : State) (d : Nat) (cls : CallClass) (inbound : Option Nat) :
    (selectRoute d cls inbound s).2.cmn.nextPeriodEnd = s.cmn.nextPeriodEnd := by
  obtain ⟨records, h⟩ := selectRoute_frame d cls inbound s
  rw [h]

theorem routeWith_nextPeriodEnd (s : State) (p : PortId) (d : Nat) (cls : CallClass) (plan : InboundPlan) (i : Nat) :
    (routeWith p d cls plan i s).2.cmn.nextPeriodEnd = s.cmn.nextPeriodEnd := by
  have hsel := selectRoute_nextPeriodEnd s d cls (planGroup plan)
  unfold routeWith
  split <;> rename_i he <;> rw [he] at hsel
  · rw [(dropInbound_sameBut _ plan).cmn.resolve_left (by decide), hsel]
  · rw [(completeRoute_sameBut _ p d cls plan i _).cmn.resolve_left (by decide), hsel]

theorem routeCall_nextPeriodEnd (s : State) (p : PortId) (d n : Nat) (inb : Option Nat) :
    (routeCall p d n inb s).2.cmn.nextPeriodEnd = s.cmn.nextPeriodEnd := by
  unfold routeCall
  split
  · rfl
  split
  · rfl
  split
  · rfl
  unfold routeInbound
  split
  · exact routeWith_nextPeriodEnd s _ _ _ _ _
  split
  · rfl
  · exact routeWith_nextPeriodEnd s _ _ _ _ _
  · rw [routeWith_nextPeriodEnd, (displace_sameBut s _).cmn.resolve_left (by decide)]

theorem rerouteCall_nextPeriodEnd (s : State) (p : PortId) (i g : Nat) :
    (rerouteCall p i g s).2.cmn.nextPeriodEnd = s.cmn.nextPeriodEnd := by
  unfold rerouteCall
  split
  · rfl
  rename_i r _
  have hsel := selectRoute_nextPeriodEnd s r.dest r.cls (r.inbound.map (·.group))
  split
  · unfold rerouteRecord
    split <;> rename_i he <;> rw [he] at hsel
    · exact hsel
    · rw [completeReroute_sameBut.cmn.resolve_left (by decide), hsel]
  all_goals rfl

theorem defineGroup_nextPeriodEnd (s : State) (g : Nat) (a : GroupArg) :
    (defineGroup g a s).2.cmn.nextPeriodEnd = s.cmn.nextPeriodEnd := by
  unfold defineGroup
  split
  · rfl
  split
  · rfl
  split
  · rfl
  split <;> rfl

theorem removeGroup_nextPeriodEnd (s : State) (g form : Nat) :
    (removeGroup g form s).2.cmn.nextPeriodEnd = s.cmn.nextPeriodEnd := by
  unfold removeGroup
  split
  · rfl
  split <;> rfl

theorem writeProfile_nextPeriodEnd (s : State) (n : Nat) (p : Profile) :
    (writeProfile n p s).2.cmn.nextPeriodEnd = s.cmn.nextPeriodEnd := by
  unfold writeProfile
  split <;> rfl

/-- A new length of the period counts from the next period end on (R94). -/
theorem setPeriod_nextPeriodEnd (s : State) (n : Nat) :
    (setPeriod n s).2.cmn.nextPeriodEnd = s.cmn.nextPeriodEnd := by
  unfold setPeriod
  split <;> rfl

theorem readCongestion_nextPeriodEnd (s : State) (first n : Nat) :
    (readCongestion first n s).2.cmn.nextPeriodEnd = s.cmn.nextPeriodEnd := by
  unfold readCongestion
  split
  · rfl
  · refine List.foldlRecOn (motive := fun u : State => u.cmn.nextPeriodEnd = s.cmn.nextPeriodEnd) _ _ rfl
      fun u hu g _ => ?_
    unfold resetLatch
    split <;> exact hu

theorem serve_nextPeriodEnd {r : Requester} {f : State → Reply × State}
    (hf : (f s).2.cmn.nextPeriodEnd = s.cmn.nextPeriodEnd) (h : serve r c f s = .next t) :
    t.cmn.nextPeriodEnd = s.cmn.nextPeriodEnd :=
  serve_keeps (P := fun u : State => u.cmn.nextPeriodEnd = s.cmn.nextPeriodEnd)
    (fun u a hu => (congrArg CongestionMonitor.nextPeriodEnd (State.deliver_cmn u r c a)).trans hu) rfl hf h

/-- The next period end moves at a period end alone, and forward (R86). -/
theorem exec_nextPeriodEnd_le (hc : ∀ pins, c ≠ .powerOnReset pins) (h : exec c s = .next t) :
    s.cmn.nextPeriodEnd ≤ t.cmn.nextPeriodEnd := by
  cases c with
  | powerOnReset pins => exact absurd rfl (hc pins)
  | periodEnd =>
    refine eventWhen_keeps (P := fun u : State => s.cmn.nextPeriodEnd ≤ u.cmn.nextPeriodEnd) (Nat.le_refl _)
      (fun _ => ?_) h
    rw [endPeriod_cmn]
    exact Nat.le_add_right _ _
  | route r d n inb => exact (serve_nextPeriodEnd (routeCall_nextPeriodEnd s _ d n inb) h).ge
  | reroute r i g => exact (serve_nextPeriodEnd (rerouteCall_nextPeriodEnd s _ i g) h).ge
  | defineGroupDefine r g a => exact (serve_nextPeriodEnd (defineGroup_nextPeriodEnd s g a) h).ge
  | defineGroupRemove r g f => exact (serve_nextPeriodEnd (removeGroup_nextPeriodEnd s g f) h).ge
  | writeProfile r n p => exact (serve_nextPeriodEnd (writeProfile_nextPeriodEnd s n p) h).ge
  | setPeriod r n => exact (serve_nextPeriodEnd (setPeriod_nextPeriodEnd s n) h).ge
  | readCongestionGroup r first n => exact (serve_nextPeriodEnd (readCongestion_nextPeriodEnd s first n) h).ge
  | _ => rw [(exec_sameBut h).cmn.resolve_left (by simp [touches])]

end Period

end Sys2Proof.Machine
end

section
/-! SUPPORT. Every command keeps the clocks and the automatic close setting in their ranges (R140, R146, R147), and passes over nothing that is due (R149, R159, log entry 5). -/

namespace Sys2Proof.Machine

open Sys2Proof

/-! ### The reset -/

theorem powerOnReset_port {s t : State} {pins : RolePins} (h : exec (.powerOnReset pins) s = .next t) (p : PortId) :
    ∃ role, t.port p = Port.reset role := by
  obtain ⟨role, hport⟩ := resetRoles_port (roleOfPins pins.p0) (roleOfPins pins.p1) (roleOfPins pins.p2)
    (roleOfPins pins.p3) p
  exact ⟨role, (port_congr (congrArg State.pct (next_inj h)) p).trans hport⟩

/-- The reset and the tick are the two commands that move the running time. -/
theorem reset_or_tick_or_other (c : Instr) : (∃ pins, c = .powerOnReset pins) ∨ c = .millisecondTick
    ∨ (∀ pins, c ≠ .powerOnReset pins) ∧ c ≠ .millisecondTick := by
  cases c with
  | powerOnReset pins => exact .inl ⟨pins, rfl⟩
  | millisecondTick => exact .inr (.inl rfl)
  | _ => exact .inr (.inr ⟨by simp, by simp⟩)

/-! ### The running time and the time of day -/

/-- The two clocks lie in their ranges (R146, R147). -/
structure TimeBase.InRange (t : TimeBase) : Prop where
  running : t.running ≤ Config.maxCount48
  day : t.day < Config.wrap16
  second : t.second ≤ Config.lastSecond
  milli : t.milli ≤ 999

section Clocks

variable {s t : State} {c : Instr} {b : TimeBase}

theorem advance_running_inRange (h : b.running ≤ Config.maxCount48) : (advance b).running ≤ Config.maxCount48 := by
  rw [advance_running]
  unfold Config.maxCount48 at h ⊢
  split <;> omega

theorem nextSecond_le (n : Nat) : nextSecond n ≤ Config.lastSecond := by
  unfold nextSecond
  split <;> omega

/-- A tick stays within the second, or enters the next one and with the last one a day. -/
theorem advance_inRange (h : b.InRange) : (advance b).InRange := by
  have hrunning := advance_running_inRange h.running
  rcases Nat.lt_or_ge b.milli 999 with hin | hlast
  · rw [advance_within hin]
    exact ⟨hrunning, h.day, h.second, hin⟩
  · rw [advance_enters hlast]
    refine ⟨hrunning, ?_, nextSecond_le _, Nat.zero_le _⟩
    show (if b.second < 86399 then b.day else (b.day + 1) % 65536) < 65536
    split
    · exact h.day
    · exact Nat.mod_lt _ (by decide)

/-- A request in service is one that asks for the command. -/
theorem exists_asksFor_of_inService {r : Requester} (h : s.inService r c = true) : ∃ q, asksFor r c q = true := by
  cases r with
  | head p =>
    obtain ⟨-, q, _, -, hq⟩ := inService_head s p c h
    exact ⟨q, hq⟩
  | detached p =>
    obtain ⟨q, -, hq⟩ := List.any_eq_true.1 h
    exact ⟨q, hq⟩

/-- The day of a SET_TIME comes in two bytes (R172). -/
theorem day_lt_of_asksFor_setTime {r r' : Requester} {d n m : Nat} {q : Request}
    (h : asksFor r (.setTime r' d n m) q = true) : d < Config.wrap16 := by
  obtain ⟨k, -, hk⟩ := (asksFor_iff _ _ _).1 h
  cases k
  case setTime =>
    injection hk with _ hd
    exact hd ▸ field_lt q.body 0 2
  case defineGroup | setGroupState | circuitMaint | readGroup | readDest | readCongestion | readTariff | setAutoClose =>
    simp only [commandOf] at hk
    split at hk <;> cases hk
  all_goals cases hk

theorem setTime_inRange {d n m : Nat} (h : s.tmb.InRange) (hd : d < Config.wrap16) :
    (setTime d n m s).2.tmb.InRange := by
  by_cases hbad : 86399 < n ∨ 999 < m
  · rw [setTime_badValue hbad]
    exact h
  · rw [not_or, Nat.not_lt, Nat.not_lt] at hbad
    obtain ⟨hn, hm⟩ := hbad
    rw [setTime_done hn hm]
    exact ⟨h.running, hd, hn, hm⟩

theorem exec_setTime_inRange {r : Requester} {d n m : Nat} (hs : s.tmb.InRange)
    (h : exec (.setTime r d n m) s = .next t) : t.tmb.InRange := by
  rcases (serve_next _ _ _ s t).1 h with ⟨hin, rfl⟩ | ⟨-, rfl⟩
  · obtain ⟨q, hq⟩ := exists_asksFor_of_inService hin
    rw [State.deliver_tmb]
    exact setTime_inRange hs (day_lt_of_asksFor_setTime hq)
  · exact hs

theorem exec_timeBase_inRange (hs : s.tmb.InRange) (h : exec c s = .next t) : t.tmb.InRange := by
  cases c with
  | powerOnReset pins =>
    obtain rfl := next_inj h
    exact ⟨reset_clockInv.running, reset_clockInv.day, reset_clockInv.second, reset_clockInv.milli⟩
  | millisecondTick =>
    exact eventWhen_keeps (P := fun u : State => u.tmb.InRange) hs (fun _ => advance_inRange hs) h
  | setTime r d n m => exact exec_setTime_inRange hs h
  | _ => exact (exec_sameBut h).tmb.resolve_left (by simp [touches]) ▸ hs

/-- The running time moves with the tick and the reset alone (R146). -/
theorem exec_now (hreset : ∀ pins, c ≠ .powerOnReset pins) (htick : c ≠ .millisecondTick) (h : exec c s = .next t) :
    t.now = s.now := by
  cases c with
  | powerOnReset pins => exact absurd rfl (hreset pins)
  | millisecondTick => exact absurd rfl htick
  | setTime r d n m =>
    exact serve_keeps (P := fun u : State => u.now = s.now) (fun u a hu => (State.deliver_now u r _ a).trans hu) rfl
      (setTime_now d n m s) h
  | _ => exact (exec_sameBut h).now (by simp [touches])

end Clocks

/-! ### The automatic close setting -/

section AutoClose

variable {s t : State} {c : Instr}

theorem accumulateLeg_autoClose (leg : Option RatedLeg) (s : State) :
    (accumulateLeg leg s).sts.autoClose = s.sts.autoClose := by
  cases leg with
  | none => rfl
  | some l => exact State.setBank_autoClose _ _ _

theorem releaseRated_autoClose (i : Nat) (r : CallRecord) (s : State) :
    (releaseRated i r s).2.sts.autoClose = s.sts.autoClose := by
  rw [releaseRated, (freeCall_sameBut _ i r).sts.resolve_left (by decide), accumulateLeg_autoClose,
    accumulateLeg_autoClose]

theorem releaseCall_autoClose (p : PortId) (i g : Nat) (s : State) :
    (releaseCall p i g s).2.sts.autoClose = s.sts.autoClose := by
  unfold releaseCall
  split
  · rfl
  split
  case h_4 => rw [freeRecord_sts, (freeInbound_sameBut s _).sts.resolve_left (by decide)]
  all_goals exact releaseRated_autoClose i _ s

theorem performClose_autoClose (s : State) : (performClose s).sts.autoClose = s.sts.autoClose := by
  cases hd : mustDefer s with
  | true => rw [performClose_defers hd, (deferClose_closeHeld s).autoClose]
  | false => rw [performClose_swaps hd, swapBanks_autoClose]

theorem closePeriod_autoClose (s : State) : (closePeriod s).2.sts.autoClose = s.sts.autoClose := by
  unfold closePeriod
  simp only
  split <;> exact performClose_autoClose s

theorem releaseBank_autoClose (n : Nat) (s : State) : (releaseBank n s).2.sts.autoClose = s.sts.autoClose := by
  unfold releaseBank
  split
  · rfl
  split
  · unfold collectBank
    simp only
    split
    · rw [swapBanks_autoClose, State.setBank_autoClose]
    · rw [State.setBank_autoClose]
  all_goals rfl

/-- The automatic close setting is off or a second of the day (R140). -/
def State.AutoCloseInRange (s : State) : Prop := ∀ n ∈ s.sts.autoClose, n ≤ Config.lastSecond

theorem State.AutoCloseInRange.congr (h : s.AutoCloseInRange) (ht : t.sts.autoClose = s.sts.autoClose) :
    t.AutoCloseInRange := fun n hn => h n (ht ▸ hn)

theorem setAutoCloseSecond_inRange (h : s.AutoCloseInRange) (form n : Nat) :
    (setAutoCloseSecond form n s).2.AutoCloseInRange := by
  unfold setAutoCloseSecond
  split
  · exact h
  · rename_i hok
    rw [not_or, Nat.not_lt] at hok
    intro m hm
    obtain rfl := Option.some.inj hm
    exact hok.2

theorem serve_autoCloseInRange {r : Requester} {f : State → Reply × State} (hs : s.AutoCloseInRange)
    (hf : (f s).2.AutoCloseInRange) (h : serve r c f s = .next t) : t.AutoCloseInRange :=
  serve_keeps (P := State.AutoCloseInRange)
    (fun u a hu => hu.congr (congrArg SettlementStore.autoClose (State.deliver_sts u r c a))) hs hf h

theorem exec_autoCloseInRange (hs : s.AutoCloseInRange) (h : exec c s = .next t) : t.AutoCloseInRange := by
  cases c with
  | powerOnReset pins =>
    obtain rfl := next_inj h
    exact fun _ hn => by cases hn
  | millisecondTick => exact eventWhen_keeps (P := State.AutoCloseInRange) hs (fun _ => hs.congr rfl) h
  | release r i g => exact serve_autoCloseInRange hs (hs.congr (releaseCall_autoClose _ i g s)) h
  | closePeriod r => exact serve_autoCloseInRange hs (hs.congr (closePeriod_autoClose s)) h
  | automaticClose =>
    rw [exec, execAutomaticClose] at h
    exact eventWhen_keeps (P := State.AutoCloseInRange) hs (fun _ => hs.congr (performClose_autoClose s.closeServed)) h
  | setAutoCloseOff r => exact serve_autoCloseInRange hs (fun _ hn => by cases hn) h
  | setAutoCloseSecond r form n => exact serve_autoCloseInRange hs (setAutoCloseSecond_inRange hs form n) h
  | releaseBank r n => exact serve_autoCloseInRange hs (hs.congr (releaseBank_autoClose n s)) h
  | _ => exact hs.congr (congrArg SettlementStore.autoClose ((exec_sameBut h).sts.resolve_left (by simp [touches])))

end AutoClose

/-! ### The clocks' invariant -/

section ClockInv

variable {s t : State} {c : Instr}

/-- The ports' times are not to come: the reset sets them to 0, and any other command takes none but the present (log entry 14). -/
theorem exec_portTimes_le (hgood : ∀ p, (s.port p).goodSince ≤ s.now) (hhead : ∀ p, (s.port p).headAt ≤ s.now)
    (h : exec c s = .next t) : ∀ p, (t.port p).goodSince ≤ t.now ∧ (t.port p).headAt ≤ t.now := fun p => by
  rcases reset_or_tick_or_other c with ⟨pins, rfl⟩ | rfl | ⟨hreset, htick⟩
  · obtain ⟨role, hport⟩ := powerOnReset_port h p
    rw [hport]
    exact ⟨Nat.zero_le _, Nat.zero_le _⟩
  · have hkept := exec_keepsPortTimes (by simp) h p
    have hnow : s.now ≤ t.now :=
      eventWhen_keeps (P := fun u : State => s.now ≤ u.now) (Nat.le_refl _) (fun _ => now_le_tick s) h
    exact ⟨(hkept.goodSince (hgood p)).trans hnow, (hkept.headAt (hhead p)).trans hnow⟩
  · have hkept := exec_keepsPortTimes hreset h p
    rw [exec_now hreset htick h]
    exact ⟨hkept.goodSince (hgood p), hkept.headAt (hhead p)⟩

theorem exec_clockInv (hs : s.ClockInv) (h : exec c s = .next t) : t.ClockInv := by
  have hclock := exec_timeBase_inRange ⟨hs.running, hs.day, hs.second, hs.milli⟩ h
  have hports := exec_portTimes_le hs.goodSince hs.headAt h
  exact ⟨hclock.running, hclock.day, hclock.second, hclock.milli, exec_autoCloseInRange hs.autoClose h,
    fun p => (hports p).1, fun p => (hports p).2⟩

end ClockInv

/-! ### What falls due -/

/-- Nothing that `s` keeps a time for has fallen due before time `now`. -/
structure State.DueFrom (now : Nat) (s : State) : Prop where
  guards : s.GuardsFrom now
  ends : s.EndsFrom now
  period : now ≤ s.cmn.nextPeriodEnd
  links : ∀ p, (s.port p).LinkInTime now

section Due

variable {now : Nat} {s t : State} {c : Instr}

theorem deadlineInv_iff : s.DeadlineInv ↔ s.DueFrom s.now :=
  ⟨fun h => ⟨h.guard, h.restriction, h.period, h.link⟩, fun h => ⟨h.guards, h.ends, h.period, h.links⟩⟩

theorem State.DueFrom.mono {earlier : Nat} (h : s.DueFrom now) (hle : earlier ≤ now) : s.DueFrom earlier where
  guards i x d hx hd := hle.trans (h.guards i x d hx hd)
  ends n x hx := hle.trans (h.ends n x hx)
  period := hle.trans h.period
  links p hr hd hg := hle.trans (h.links p hr hd hg)

/-- An entry of a table of which no listed entry satisfies what the default does not. -/
theorem Table.get_eq_false_of_any {α : Type} {d : α} {t : Table α} {p : α → Bool} (hd : p d = false)
    (h : t.any (fun e => p e.2) = false) (k : Nat) : p (Table.get d t k) = false := by
  rcases Table.get_mem_or_default d t k with hget | hmem
  · rw [hget, hd]
  · exact Bool.eq_false_iff.2 (List.any_eq_false.1 h _ hmem)

/-- A tick is held back until nothing is due at the present running time (R149, R159, log entry 5). -/
theorem dueFrom_of_mayTick (h : mayTick s = true) : s.DueFrom (s.now + 1) := by
  simp only [mayTick, eventOutstanding, Bool.and_eq_true, Bool.not_eq_true', Bool.or_eq_false_iff,
    decide_eq_false_iff_not, Nat.not_le] at h
  obtain ⟨⟨⟨⟨⟨hcalls, hdests⟩, hperiod⟩, -⟩, hlinks⟩, -⟩ := h
  refine ⟨fun i x d hx hd => ?_, fun n x hx => ?_, hperiod, linkUp_not_outstanding_iff.1 hlinks⟩
  · have hnot : (s.call i).any (guardDue s.now) = false :=
      Table.get_eq_false_of_any (p := Option.any (guardDue s.now)) rfl hcalls i
    rw [hx] at hnot
    exact Nat.not_le.1 fun hle => Bool.eq_false_iff.1 hnot (guardDue_iff.2 ⟨d, hd, hle⟩)
  · have hnot : endDue s.now (s.dest n) = false := Table.get_eq_false_of_any (p := endDue s.now) rfl hdests n
    exact Nat.not_le.1 fun hle => Bool.eq_false_iff.1 hnot (endDue_iff.2 ⟨x, hx, hle⟩)

theorem tick_now_le (s : State) : (tick s).now ≤ s.now + 1 := by
  show (advance s.tmb).running ≤ s.tmb.running + 1
  rw [advance_running]
  split <;> omega

/-- A tick that is taken comes to a time before which nothing has fallen due, and leaves all that falls due. -/
theorem tick_deadlineInv (h : mayTick s = true) : (tick s).DeadlineInv := by
  have hdue := (dueFrom_of_mayTick h).mono (tick_now_le s)
  exact deadlineInv_iff.2 ⟨hdue.guards.of_call fun _ => rfl, hdue.ends.of_dest fun _ => rfl, hdue.period,
    fun p => (port_congr (s := s) (t := tick s) rfl p).symm ▸ hdue.links p⟩

theorem powerOnReset_deadlineInv {pins : RolePins} (h : exec (.powerOnReset pins) s = .next t) : t.DeadlineInv where
  guard i x d hx := by
    obtain rfl := next_inj h
    cases hx
  restriction n x hx := by
    obtain rfl := next_inj h
    cases hx
  period := by
    obtain rfl := next_inj h
    exact Nat.zero_le _
  link p _ _ hg := by
    obtain ⟨role, hport⟩ := powerOnReset_port h p
    rw [hport] at hg
    cases hg

/-- A command that leaves the running time sets no time that is past. -/
theorem exec_dueFrom (hreset : ∀ pins, c ≠ .powerOnReset pins) (hs : s.DueFrom s.now) (h : exec c s = .next t) :
    t.DueFrom s.now where
  guards := exec_guardsFrom hs.guards (Nat.le_refl _) h
  ends := exec_endsFrom hs.ends (Nat.le_refl _) h
  period := hs.period.trans (exec_nextPeriodEnd_le hreset h)
  links p := (exec_keepsPortTimes hreset h p).link (hs.links p)

theorem exec_deadlineInv (hs : s.DeadlineInv) (h : exec c s = .next t) : t.DeadlineInv := by
  rcases reset_or_tick_or_other c with ⟨pins, rfl⟩ | rfl | ⟨hreset, htick⟩
  · exact powerOnReset_deadlineInv h
  · exact eventWhen_keeps (P := State.DeadlineInv) hs tick_deadlineInv h
  · rw [deadlineInv_iff, exec_now hreset htick h]
    exact exec_dueFrom hreset (deadlineInv_iff.1 hs) h

end Due

/-- Settles O54: a tick is taken only where nothing is due, and every other command but the reset leaves the running time and sets no time that is past. -/
theorem noDeadlineIsPassedOver : Obligations.NoDeadlineIsPassedOver := by
  intro s t h
  unfold step at h
  split at h
  · exact next_inj h ▸ ⟨id, id⟩
  · rename_i c rest _
    exact ⟨fun hs => exec_clockInv (s := { s with pending := rest }) { hs with } h,
      fun hs => exec_deadlineInv (s := { s with pending := rest }) { hs with } h⟩

end Sys2Proof.Machine
end

section
/-! SUPPORT. A request row is its block's part, served (R57, R166): what the part is, whose request the row names, and what every command and every served request comes to. -/

namespace Sys2Proof.Machine

open Sys2Proof

/-! ### The block's part -/

/-- What the owning block does in a request row: its reply, and the state that it leaves. An event is no request: its arm answers to nobody and leaves the state. -/
def blockPart : Instr → State → Reply × State
  | .route r dest cls inbound => routeCall r.port dest cls inbound
  | .confirm r index gen => confirmCall r.port index gen
  | .answer r index gen => answerCall r.port index gen
  | .release r index gen => releaseCall r.port index gen
  | .reroute r index gen => rerouteCall r.port index gen
  | .queryCall _ index gen => queryCall index gen
  | .setGuard _ seconds => setGuard seconds
  | .adoptPort _ fromPort toPort => adoptPort fromPort toPort
  | .exchangeRestart _ => exchangeRestart
  | .defineGroupDefine _ group arg => defineGroup group arg
  | .defineGroupRemove _ group form => removeGroup group form
  | .setGroupStateBlock _ group => blockGroup group
  | .setGroupStateUnblock _ group form => unblockGroup group form
  | .setReserve _ group reserve => setReserve group reserve
  | .circuitMaintOut _ circuit => circuitOut circuit
  | .circuitMaintReturn _ circuit form => circuitReturn circuit form
  | .readGroupSummary _ group form => readGroupSummary group form
  | .readGroupCircuit _ group start n => readGroupCircuit group start n
  | .readGroupFreeList _ group start n => readGroupFreeList group start n
  | .writeDest _ dest rotate choices => writeDest dest rotate choices
  | .writeRouteSet _ set entries => writeRouteSet set entries
  | .maskChoice _ dest position mask => maskChoice dest position mask
  | .setFirst _ dest position => setFirst dest position
  | .readDestDestination _ dest => readDest dest
  | .readDestRouteSet _ form set => readRouteSet form set
  | .farCongestion _ dest gap duration => farCongestion dest gap duration
  | .farClear _ dest => farClear dest
  | .writeProfile _ profile arg => writeProfile profile arg
  | .setPeriod _ code => setPeriod code
  | .readCongestionGroup _ first count => readCongestion first count
  | .readCongestionProfile _ profile => readProfile profile
  | .readCongestionPeriod _ form => readPeriod form
  | .writeLocalOffer _ carrier slots => writeLocalOffer carrier slots
  | .writeCarrierOffer _ carrier slots => writeCarrierOffer carrier slots
  | .confirmAgreement _ carrier slot => confirmAgreement carrier slot
  | .withdrawAgreement _ carrier => withdrawAgreement carrier
  | .readAgreement _ first count => readAgreement first count
  | .writeTariff _ carrier slot arg => writeTariff carrier slot arg
  | .writeBands _ points => writeBands points
  | .readTariffClass _ copy carrier slot => readTariffClass copy carrier slot
  | .readTariffBand _ form copy => readTariffBand form copy
  | .closePeriod _ => closePeriod
  | .setAutoCloseOff _ => setAutoCloseOff
  | .setAutoCloseSecond _ form second => setAutoCloseSecond form second
  | .readBank _ bank first count => readBank bank first count
  | .releaseBank _ bank => releaseBank bank
  | .setTime _ day second milli => setTime day second milli
  | .readTime _ => readTime
  | .takeNotices r => takeNotices r.port
  | .setNoticeMask r mask => setNoticeMask r.port mask
  | .portStatus r port => portStatus r.port port
  | .identify r => identify r.port
  | .powerOnReset _ | .millisecondTick | .lineIndicationLost _ | .lineIndicationGood _ | .linkUp _
  | .frameArrival _ _ _ | .engineGrant | .replySent _ | .guardExpiry _ | .gapExpiry _
  | .restrictionEnd _ | .periodEnd | .automaticClose => fun s => (Reply.plain .done, s)

section Serving

variable {c : Instr} {r : Requester} {s t : State}

/-- A request row serves its block's part. -/
theorem exec_eq_serve (hr : c.requester? = some r) (s : State) : exec c s = serve r c (blockPart c) s := by
  cases c <;> cases hr <;> rfl

/-- What a served request leaves. -/
theorem exec_of_inService (hr : c.requester? = some r) (h : s.inService r c = true) :
    exec c s = .next ((blockPart c s).2.deliver r c (blockPart c s).1) :=
  (exec_eq_serve hr s).trans (serve_of_inService h _)

theorem exec_of_not_inService (hr : c.requester? = some r) (h : s.inService r c = false) : exec c s = .next s := by
  rw [exec_eq_serve hr, serve_next]
  exact .inr ⟨h, rfl⟩

/-- The rows that only read: their block's part leaves the state as it is. -/
def Instr.reads : Instr → Bool
  | .queryCall _ _ _ | .readGroupSummary _ _ _ | .readGroupCircuit _ _ _ _ | .readGroupFreeList _ _ _ _
  | .readDestDestination _ _ | .readDestRouteSet _ _ _ | .readCongestionProfile _ _ | .readCongestionPeriod _ _
  | .readAgreement _ _ _ | .readTariffClass _ _ _ _ | .readTariffBand _ _ _ | .readBank _ _ _ _ | .readTime _
  | .identify _ => true
  | _ => false

theorem blockPart_read (hc : Instr.reads c = true) (s : State) : (blockPart c s).2 = s := by
  cases c with
  | queryCall r i g => exact queryCall_state s i g
  | readGroupSummary r g f => exact readGroupSummary_state s g f
  | readGroupCircuit r g a n => exact readGroupCircuit_state s g a n
  | readGroupFreeList r g a n => exact readGroupFreeList_state s g a n
  | readDestDestination r d => exact readDest_state s d
  | readDestRouteSet r f n => exact readRouteSet_state s f n
  | readCongestionProfile r n => exact readProfile_state s n
  | readCongestionPeriod r f => exact readPeriod_state s f
  | readAgreement r a n => exact readAgreement_state s a n
  | readTariffClass r k n m => exact readTariffClass_state s k n m
  | readTariffBand r f k => exact readTariffBand_state s f k
  | readBank r k a n => exact readBank_state s k a n
  | readTime r | identify r => rfl
  | _ => cases hc

/-- A block's part touches the ports by notices, a mask or flags alone, if at all. -/
theorem blockPart_quiet (hr : c.requester? ≠ none) (s : State) : s.Quiet (blockPart c s).2 := by
  have hread : Instr.reads c = true → s.Quiet (blockPart c s).2 := fun h => (blockPart_read h s).symm ▸ .refl s
  cases c with
  | powerOnReset _ | millisecondTick | lineIndicationLost _ | lineIndicationGood _ | linkUp _ | frameArrival _ _ _
  | engineGrant | replySent _ | guardExpiry _ | gapExpiry _ | restrictionEnd _ | periodEnd | automaticClose =>
    exact absurd rfl hr
  | route r d n inb => exact routeCall_quiet s _ _ _ _
  | confirm r i g => exact (confirmCall_sameBut s _ _ _).quiet (by decide)
  | answer r i g => exact (answerCall_sameBut s _ _ _).quiet (by decide)
  | release r i g => exact releaseCall_quiet s _ _ _
  | reroute r i g => exact rerouteCall_quiet s _ _ _
  | setGuard r n => exact (sameBut_crt s _).quiet (by decide)
  | adoptPort r f u => exact adoptPort_quiet s _ _
  | exchangeRestart r => exact (exchangeRestart_sameBut s).quiet (by decide)
  | defineGroupDefine r g a => exact (defineGroup_sameBut s _ _).quiet (by decide)
  | defineGroupRemove r g f => exact (removeGroup_sameBut s _ _).quiet (by decide)
  | setGroupStateBlock r g => exact (blockGroup_sameBut s _).quiet (by decide)
  | setGroupStateUnblock r g f => exact (unblockGroup_sameBut s _ _).quiet (by decide)
  | setReserve r g n => exact (setReserve_sameBut s _ _).quiet (by decide)
  | circuitMaintOut r n => exact (circuitOut_sameBut s _).quiet (by decide)
  | circuitMaintReturn r n f => exact (circuitReturn_sameBut s _ _).quiet (by decide)
  | writeDest r d f l => exact (writeDest_sameBut s _ _ _).quiet (by decide)
  | writeRouteSet r n l => exact (writeRouteSet_sameBut s _ _).quiet (by decide)
  | maskChoice r d i m => exact (maskChoice_sameBut s _ _ _).quiet (by decide)
  | setFirst r d i => exact (setFirst_sameBut s _ _).quiet (by decide)
  | farCongestion r d g n => exact (farCongestion_sameBut s _ _ _).quiet (by decide)
  | farClear r d => exact farClear_quiet s _
  | writeProfile r n p => exact (writeProfile_sameBut s _ _).quiet (by decide)
  | setPeriod r n => exact (setPeriod_sameBut s _).quiet (by decide)
  | readCongestionGroup r a n => exact (readCongestion_sameBut s _ _).quiet (by decide)
  | writeLocalOffer r n l => exact writeLocalOffer_quiet s _ _
  | writeCarrierOffer r n l => exact writeCarrierOffer_quiet s _ _
  | confirmAgreement r n m => exact confirmAgreement_quiet s _ _
  | withdrawAgreement r n => exact withdrawAgreement_quiet s _
  | writeTariff r n m v => exact (writeTariff_sameBut s _ _ _).quiet (by decide)
  | writeBands r l => exact (writeBands_sameBut s _).quiet (by decide)
  | closePeriod r => exact closePeriod_quiet s
  | setAutoCloseOff r => exact (sameBut_sts s _).quiet (by decide)
  | setAutoCloseSecond r f n => exact (setAutoCloseSecond_sameBut s _ _).quiet (by decide)
  | releaseBank r n => exact releaseBank_quiet s _
  | setTime r d n m => exact (setTime_sameBut s _ _ _).quiet (by decide)
  | takeNotices r => exact setPort_quiet (dropNotices_quiet _ _)
  | setNoticeMask r m => exact setNoticeMask_quiet s _ _
  | portStatus r n => exact portStatus_quiet s _ _
  | _ => exact hread rfl

/-! ### Every command takes place -/

theorem eventWhen_completes (due : Bool) (f : State → State) (s : State) : ∃ t, eventWhen due f s = .next t := by
  unfold eventWhen
  split <;> exact ⟨_, rfl⟩

theorem exec_completes (c : Instr) (s : State) : ∃ t, exec c s = .next t := by
  cases hr : c.requester? with
  | some r =>
    cases h : s.inService r c with
    | true => exact ⟨_, exec_of_inService hr h⟩
    | false => exact ⟨_, exec_of_not_inService hr h⟩
  | none =>
    cases c with
    | powerOnReset _ | frameArrival _ _ _ | replySent _ | gapExpiry _ => exact ⟨_, rfl⟩
    | millisecondTick | restrictionEnd _ | periodEnd => exact eventWhen_completes _ _ s
    | lineIndicationLost p =>
      rw [exec, execLineIndicationLost]
      exact eventWhen_completes _ _ s
    | lineIndicationGood p =>
      rw [exec, execLineIndicationGood]
      exact eventWhen_completes _ _ s
    | linkUp p =>
      rw [exec, execLinkUp]
      exact eventWhen_completes _ _ s
    | automaticClose =>
      rw [exec, execAutomaticClose]
      exact eventWhen_completes _ _ s
    | engineGrant =>
      rw [exec, execEngineGrant]
      split
      · exact eventWhen_completes _ _ s
      · exact ⟨_, rfl⟩
    | guardExpiry i =>
      rw [exec, execGuardExpiry]
      split
      · exact ⟨_, rfl⟩
      · exact eventWhen_completes _ _ s
    | _ => cases hr

/-- Settles O2: a request is served or left, an event takes place or not, and none touches the queue of commands. -/
theorem everyCommandCompletes : Obligations.EveryCommandCompletes := by
  refine ⟨fun c s => ?_, fun c r s hr h => exec_of_not_inService hr h⟩
  obtain ⟨t, ht⟩ := exec_completes c s
  exact ⟨t, ht, (exec_sameBut ht).pending⟩

/-! ### What a served request does to the ports -/

theorem Port.Quiet.replies {q q' : Port} (h : q.Quiet q') : q'.replies = q.replies := by
  obtain ⟨_, _, _, _, _, _, rfl⟩ := h.same
  rfl

theorem Port.Quiet.detached {q q' : Port} (h : q.Quiet q') : q'.detached = q.detached := by
  obtain ⟨_, _, _, _, _, _, rfl⟩ := h.same
  rfl

theorem answerHead_cons {q : Port} {h : Request} {rest : List Request} (hf : q.fifo = h :: rest) (a : Reply) :
    answerHead a q = { q with stage := .answered, replies := q.replies ++ [⟨false, replyFrame h.tag a⟩] } := by
  simp [answerHead, hf]

theorem inService_head_of_asks {p : PortId} {q : Request} {rest : List Request}
    (hst : (s.port p).stage = .inService ∨ (s.port p).stage = .checked) (hf : (s.port p).fifo = q :: rest)
    (hq : asksFor (.head p) c q = true) : s.inService (.head p) c = true := by
  simpa [State.inService, headInService, hf, hq] using hst

/-- Settles O3: the block's part leaves every FIFO, stage and reply list, and the delivery of its reply moves one port. -/
theorem everyRequestInServiceIsAnswered : Obligations.EveryRequestInServiceIsAnswered := by
  refine ⟨fun c p s q rest hr hst hf hq => ?_, fun c p s hr hany => ?_⟩
  · have hquiet := blockPart_quiet (c := c) (by simp [hr]) s
    have hport := deliver_port (blockPart c s).2 (.head p) c (blockPart c s).1
    refine ⟨_, (blockPart c s).1, exec_of_inService hr (inService_head_of_asks hst hf hq), ?_⟩
    have hhead := (hport p).trans (if_pos rfl)
    simp only [answerHead_cons ((hquiet p).fifo.trans hf)] at hhead
    rw [hhead]
    refine ⟨rfl, (hquiet p).fifo.trans hf, congrArg (· ++ _) (hquiet p).replies, fun p' hp' => ?_⟩
    rw [(hport p').trans (if_neg hp')]
    exact ⟨(hquiet p').fifo, (hquiet p').stage, (hquiet p').replies⟩
  · have hquiet := blockPart_quiet (c := c) (by simp [hr]) s
    have hport := deliver_port (blockPart c s).2 (.detached p) c (blockPart c s).1
    refine ⟨_, exec_of_inService hr hany, ?_, fun p' => ?_⟩
    · rw [(hport p).trans (if_pos rfl), ← (hquiet p).detached]
    · rw [hport p']
      split <;> exact ⟨(hquiet p').fifo, (hquiet p').stage, (hquiet p').replies⟩

end Serving
end Sys2Proof.Machine
end

section
/-! SUPPORT. The events of one port: its line and its link (R158 to R160), the frame that meets its FIFO (R161 to R166), the head that is examined (R165) and the reply that has been sent (R167). -/

namespace Sys2Proof.Machine

open Sys2Proof

/-! ### One port written -/

section OnePort

variable {p : PortId} {s : State} {q : Port}

theorem setPort_port_self : (s.setPort p q).port p = q := by simp

theorem setPort_otherPorts : s.OtherPorts p (s.setPort p q) := fun p' hp' => by simp [hp']

theorem setPort_eq_self (h : q = s.port p) : s.setPort p q = s := by
  subst h
  cases p <;> rfl

theorem eventWhen_due {due : Bool} {f : State → State} (h : due = true) : eventWhen due f s = .next (f s) := by
  simp [eventWhen, h]

theorem eventWhen_not_due {due : Bool} {f : State → State} (h : due = false) : eventWhen due f s = .next s := by
  simp [eventWhen, h]

end OnePort

/-! ### The line and the link -/

section Lines

variable {now : Nat} {q : Port} {p : PortId} {s : State}

theorem lineLostDue_iff : lineLostDue now q = true ↔ q.line = .good ∧ q.goodSince + 20 ≤ now := by
  simp only [lineLostDue, Bool.and_eq_true, decide_eq_true_eq]
  rfl

/-- The request that a link loss detaches (R160, log entry 14). -/
theorem headLeftInService_eq (now : Nat) (q : Port) : headLeftInService now q =
    if q.stage = .inService ∨ (q.stage = .checked ∧ q.headAt < now) then q.fifo.head?.toList else [] :=
  if_congr (headStage_inService now q) rfl rfl

theorem lineLost_of_up (h : q.link = .up) (now : Nat) : lineLost now q = { linkLoss now q with line := .lost } := by
  simp [lineLost, h]

theorem lineLost_of_down (h : q.link = .down) (now : Nat) : lineLost now q = { q with line := .lost } := by
  simp [lineLost, h]

theorem lineLost_line (now : Nat) (q : Port) : (lineLost now q).line = .lost := rfl

theorem exec_lineIndicationLost_due (hl : (s.port p).line = .good) (hd : (s.port p).goodSince + 20 ≤ s.now) :
    exec (.lineIndicationLost p) s = .next (s.setPort p (lineLost s.now (s.port p))) := by
  rw [exec, execLineIndicationLost]
  exact eventWhen_due (lineLostDue_iff.2 ⟨hl, hd⟩)

/-- Settles O6: each of the three commands writes one port, where it is due. -/
theorem lineIndicationsMoveTheLink : Obligations.LineIndicationsMoveTheLink := by
  refine ⟨fun p s _ hearly => ?_, fun p s hl hd => ?_, fun p s hl => ?_,
    fun p s hdown hl hrole => ⟨fun hd => ?_, fun hearly => ?_⟩⟩
  · rw [exec, execLineIndicationLost]
    exact eventWhen_not_due (Bool.eq_false_iff.2 fun h => absurd (lineLostDue_iff.1 h).2 (Nat.not_le.2 hearly))
  · refine ⟨_, exec_lineIndicationLost_due hl hd, ?_⟩
    rw [setPort_port_self]
    refine ⟨fun hup => ?_, fun hdown => lineLost_of_down hdown _, lineLost_line _ _, setPort_otherPorts,
      setPort_sameBut s p _⟩
    rw [lineLost_of_up hup, ← headLeftInService_eq]
    exact ⟨rfl, rfl, rfl, rfl, rfl, rfl, rfl, rfl, rfl, rfl, rfl, rfl⟩
  · refine ⟨s.setPort p { s.port p with line := .good, goodSince := s.now }, ?_, setPort_port_self, setPort_otherPorts,
      setPort_sameBut s p _⟩
    rw [exec, execLineIndicationGood]
    exact eventWhen_due (decide_eq_true hl)
  · refine ⟨s.setPort p (attended { s.port p with link := .up, fifo := [], stage := .noHead, replies := [] }), ?_, ?_⟩
    · rw [exec, execLinkUp]
      exact eventWhen_due (linkUpDue_iff.2 ⟨hrole, hdown, hl, hd⟩)
    · rw [setPort_port_self]
      exact ⟨rfl, rfl, rfl, rfl, hl, rfl, rfl, rfl, rfl, rfl, rfl, rfl, setPort_otherPorts, setPort_sameBut s p _⟩
  · rw [exec, execLinkUp]
    exact eventWhen_not_due (Bool.eq_false_iff.2 fun h => absurd (linkUpDue_iff.1 h).2.2.2 (Nat.not_le.2 hearly))

end Lines

/-! ### The catalogue (R169) -/

theorem kindOf_kindCode (k : Kind) : kindOf (kindCode k) = some k := by cases k <;> rfl

theorem kindOf_eq_some_iff {n : Nat} {k : Kind} : kindOf n = some k ↔ kindCode k = n := by
  refine ⟨fun h => ?_, fun h => h ▸ kindOf_kindCode k⟩
  unfold kindOf at h
  split at h <;> cases h <;> rfl

theorem kindOf_eq_none_iff {n : Nat} : kindOf n = none ↔ ∀ k, kindCode k ≠ n := by
  simp only [Option.eq_none_iff_forall_ne_some, ne_eq, kindOf_eq_some_iff]

/-! ### The head that is examined (R165) -/

section Heads

variable {now : Nat} {q : Port} {h : Request} {rest : List Request} {k : Kind} {role : Role}

theorem headRefusal_no_kind (hk : ∀ k, kindCode k ≠ h.kind.toNat) : headRefusal role h = some .badRequest := by
  simp [headRefusal, kindOf_eq_none_iff.2 hk]

theorem headRefusal_bad_length (hk : kindCode k = h.kind.toNat) (hlen : lengthOk k h.body = false) :
    headRefusal role h = some .badRequest := by
  simp [headRefusal, kindOf_eq_some_iff.2 hk, hlen]

theorem headRefusal_not_permitted (hk : kindCode k = h.kind.toNat) (hlen : lengthOk k h.body = true)
    (hrole : permits k role = false) : headRefusal role h = some .notPermitted := by
  simp [headRefusal, kindOf_eq_some_iff.2 hk, hlen, hrole]

theorem headRefusal_passes (hk : kindCode k = h.kind.toNat) (hlen : lengthOk k h.body = true)
    (hrole : permits k role = true) : headRefusal role h = none := by
  simp [headRefusal, kindOf_eq_some_iff.2 hk, hlen, hrole]

theorem ownedByEngine_eq (hk : kindCode k = h.kind.toNat) : ownedByEngine h = decide (kindOwner k = .rse) := by
  simp [ownedByEngine, kindOf_eq_some_iff.2 hk]

/-- The examination of a head is as R165 orders it. -/
theorem checkHead_headTaken (hf : q.fifo = h :: rest) (now : Nat) : q.HeadTaken now h (checkHead now q) := by
  refine ⟨fun hk => checkHead_refused hf (headRefusal_no_kind hk) now,
    fun k hk => ⟨fun hlen => ?_, fun hlen hrole => ?_, fun hlen hrole => ?_⟩⟩
  · exact checkHead_refused hf (headRefusal_bad_length hk hlen) now
  · exact checkHead_refused hf (headRefusal_not_permitted hk hlen hrole) now
  · rw [checkHead_passed hf (headRefusal_passes hk hlen hrole) now, ownedByEngine_eq hk]
    simp only [decide_eq_true_eq]

end Heads

/-! ### A reply that has been sent (R167) -/

section Replies

variable {now : Nat} {q : Port} {f : ReplyFrame} {rest : List ReplyFrame}

theorem sendReply_hold (hr : q.replies = f :: rest) (hf : f.hold = true) :
    sendReply now q = { q with replies := rest } := by
  simp [sendReply, hr, hf]

theorem sendReply_served (hr : q.replies = f :: rest) (hf : f.hold = false) :
    sendReply now q = checkHead now { q with replies := rest, fifo := q.fifo.tail } := by
  simp [sendReply, hr, hf]

/-- Settles O10: a HOLD reply leaves alone, and a served reply takes its head with it. -/
theorem sentRepliesLeave : Obligations.SentRepliesLeave := by
  intro p s f rest hr
  refine ⟨s.setPort p (sendReply s.now (s.port p)), rfl, setPort_otherPorts, setPort_sameBut s p _, ?_⟩
  rw [setPort_port_self]
  refine ⟨sendReply_hold hr, fun hf h hfifo => ?_, fun hf h h' l hfifo => ?_⟩
  · rw [sendReply_served hr hf, hfifo]
    exact checkHead_nil rfl _
  · rw [sendReply_served hr hf, hfifo]
    exact checkHead_headTaken rfl _

end Replies

/-! ### A frame that arrives (R161, R162, R164) -/

section Arrivals

variable {now : Nat} {q : Port} {bytes : List Byte} {stopFault : Bool} {h : Request}

theorem receiveFrame_down (hd : q.link = .down) : receiveFrame now bytes stopFault q = q := by
  simp [receiveFrame, hd]

theorem receiveFrame_bad (hup : q.link = .up) (hbad : intact bytes stopFault = false) :
    receiveFrame now bytes stopFault q = { q with badFrame := true } := by
  simp [receiveFrame, hup, hbad]

theorem receiveFrame_intact (hup : q.link = .up) (hok : intact bytes stopFault = true) :
    receiveFrame now bytes stopFault q = takeRequest now (requestOf bytes) q := by
  simp [receiveFrame, hup, hok]

theorem takeRequest_full (hlen : 2 ≤ q.fifo.length) : takeRequest now h q = holdRequest h q :=
  if_neg (Nat.not_lt.2 hlen)

theorem takeRequest_joins (hlen : q.fifo.length = 1) : takeRequest now h q = { q with fifo := q.fifo ++ [h] } := by
  have hne : q.fifo ≠ [] := fun hnil => by simp [hnil] at hlen
  simp [takeRequest, hlen, Config.fifoDepth, hne]

theorem takeRequest_first (hf : q.fifo = []) : takeRequest now h q = checkHead now { q with fifo := [h] } := by
  simp [takeRequest, hf, Config.fifoDepth]

theorem holdRequest_room (hn : holdCount q < 7) :
    holdRequest h q = { q with replies := q.replies ++ [⟨true, replyFrame h.tag ⟨.hold, []⟩⟩] } :=
  if_pos hn

theorem holdRequest_dropped (hn : 7 ≤ holdCount q) : holdRequest h q = q :=
  if_neg (Nat.not_lt.2 hn)

/-- A frame on a DOWN link, and one that fails a check of R162. -/
theorem frameArrival_unheard (p : PortId) (bytes : List Byte) (stopFault : Bool) (s : State) :
    ((s.port p).link = .down → exec (.frameArrival p bytes stopFault) s = .next s)
    ∧ ((s.port p).link = .up → intact bytes stopFault = false →
      ∃ t, exec (.frameArrival p bytes stopFault) s = .next t
        ∧ t.port p = { s.port p with badFrame := true } ∧ s.OtherPorts p t ∧ s.SameBut [.pct] t) := by
  refine ⟨fun hd => congrArg _ (setPort_eq_self (receiveFrame_down hd)), fun hup hbad => ?_⟩
  exact ⟨_, rfl, setPort_port_self.trans (receiveFrame_bad hup hbad), setPort_otherPorts, setPort_sameBut s p _⟩

/-- An intact frame and the FIFO that it meets. -/
theorem frameArrival_intact (p : PortId) (bytes : List Byte) (s : State) (hup : (s.port p).link = .up)
    (hok : intact bytes false = true) :
    ∃ t, exec (.frameArrival p bytes false) s = .next t ∧ s.OtherPorts p t ∧ s.SameBut [.pct] t
      ∧ (2 ≤ (s.port p).fifo.length → holdCount (s.port p) < 7 →
        t.port p = { s.port p with
          replies := (s.port p).replies ++ [⟨true, replyFrame (requestOf bytes).tag ⟨.hold, []⟩⟩] })
      ∧ (2 ≤ (s.port p).fifo.length → 7 ≤ holdCount (s.port p) → t.port p = s.port p)
      ∧ ((s.port p).fifo.length = 1 →
        t.port p = { s.port p with fifo := (s.port p).fifo ++ [requestOf bytes] })
      ∧ ((s.port p).fifo = [] →
        Port.HeadTaken s.now { s.port p with fifo := [requestOf bytes] } (requestOf bytes) (t.port p)) := by
  refine ⟨s.setPort p (receiveFrame s.now bytes false (s.port p)), rfl, setPort_otherPorts, setPort_sameBut s p _, ?_⟩
  rw [setPort_port_self, receiveFrame_intact hup hok]
  refine ⟨fun hlen hn => ?_, fun hlen hn => ?_, takeRequest_joins, fun hf => ?_⟩
  · exact (takeRequest_full hlen).trans (holdRequest_room hn)
  · exact (takeRequest_full hlen).trans (holdRequest_dropped hn)
  · exact takeRequest_first hf ▸ checkHead_headTaken rfl _

end Arrivals

/-! ### Lengths of bodies (R170) -/

section Lengths

variable {b : List Byte} {k : Kind}

/-- A body of `n` bytes has the length that the rule asks for. -/
def LengthRule.Admits (n : Nat) : LengthRule → Prop
  | .exactly m => n = m
  | .tooShort => False
  | .anyLength => True

theorem lengthOk_iff : lengthOk k b = true ↔ (requiredLength k b).Admits b.length := by
  unfold lengthOk
  split <;> rename_i h <;> simp [h, LengthRule.Admits]

theorem lengthFrom_admits (n : Nat) (rule : LengthRule) :
    (lengthFrom b n rule).Admits b.length ↔ n ≤ b.length ∧ rule.Admits b.length := by
  unfold lengthFrom
  split
  · exact ⟨False.elim, fun h => by omega⟩
  · exact ⟨fun h => ⟨by omega, h⟩, And.right⟩

/-- The kinds of one fixed length, by length (R170). -/
def fixedLengths : List (Nat × List Kind) :=
  [(0, [.closePeriod, .readTime, .takeNotices, .exchangeRestart, .identify]),
    (1, [.setPeriod, .withdrawAgreement, .releaseBank, .setGuard, .setNoticeMask, .portStatus]),
    (2, [.farClear, .setGroupState, .confirmAgreement, .readAgreement, .adoptPort]),
    (3, [.confirm, .answer, .release, .reroute, .queryCall, .setReserve, .circuitMaint, .setFirst, .readDest,
      .readBank]),
    (4, [.maskChoice, .setAutoClose]), (5, [.route]), (6, [.farCongestion]), (7, [.setTime]), (10, [.writeProfile]),
    (19, [.writeTariff])]

theorem requiredLength_fixed (b : List Byte) : ∀ e ∈ fixedLengths, ∀ k ∈ e.2, requiredLength k b = .exactly e.1 := by
  simp [fixedLengths, requiredLength]

theorem lengthOk_fixed {e : Nat × List Kind} (he : e ∈ fixedLengths) (hk : k ∈ e.2) :
    lengthOk k b = true ↔ b.length = e.1 := by
  rw [lengthOk_iff, requiredLength_fixed b e he k hk]
  rfl

theorem lengthOk_defineGroup : lengthOk .defineGroup b = true ↔ 2 ≤ b.length
    ∧ (field b 1 1 = 0 → 6 ≤ b.length ∧ b.length = 12 + (field b 4 2 + 7) / 8) ∧ (field b 1 1 = 1 → b.length = 2) := by
  rw [lengthOk_iff, requiredLength, lengthFrom_admits]
  refine and_congr_right fun _ => ?_
  split <;> rename_i hform
  · rw [lengthFrom_admits]
    simp [hform, LengthRule.Admits, maintLength]
  · simp [hform, LengthRule.Admits]
  · simp_all [LengthRule.Admits]

theorem lengthOk_readGroup : lengthOk .readGroup b = true ↔ 2 ≤ b.length ∧ (field b 1 1 = 0 → b.length = 2)
    ∧ (field b 1 1 = 1 ∨ field b 1 1 = 2 → b.length = 5) := by
  rw [lengthOk_iff, requiredLength, lengthFrom_admits]
  refine and_congr_right fun _ => ?_
  split <;> rename_i hform <;> simp_all [LengthRule.Admits]

theorem lengthOk_readCongestion : lengthOk .readCongestion b = true ↔ 1 ≤ b.length ∧ (field b 0 1 = 0 → b.length = 3)
    ∧ (field b 0 1 = 1 → b.length = 2) ∧ (field b 0 1 = 2 → b.length = 1) := by
  rw [lengthOk_iff, requiredLength, lengthFrom_admits]
  refine and_congr_right fun _ => ?_
  split <;> rename_i hform <;> simp_all [LengthRule.Admits]

theorem lengthOk_readTariff : lengthOk .readTariff b = true ↔ 1 ≤ b.length ∧ (field b 0 1 = 0 → b.length = 4)
    ∧ (field b 0 1 = 1 → b.length = 2) := by
  rw [lengthOk_iff, requiredLength, lengthFrom_admits]
  refine and_congr_right fun _ => ?_
  split <;> rename_i hform <;> simp_all [LengthRule.Admits]

theorem lengthOk_writeDest : lengthOk .writeDest b = true ↔ 4 ≤ b.length ∧ b.length = 4 + 5 * field b 3 1 :=
  lengthOk_iff.trans (lengthFrom_admits 4 _)

theorem lengthOk_writeRouteSet : lengthOk .writeRouteSet b = true ↔ 3 ≤ b.length ∧ b.length = 3 + 3 * field b 2 1 :=
  lengthOk_iff.trans (lengthFrom_admits 3 _)

theorem lengthOk_offer (hk : k ∈ [Kind.writeLocalOffer, .writeCarrierOffer]) :
    lengthOk k b = true ↔ 2 ≤ b.length ∧ b.length = 2 + field b 1 1 := by
  have hrule : requiredLength k b = lengthFrom b 2 (.exactly (2 + field b 1 1)) := by
    simp only [List.mem_cons, List.not_mem_nil, or_false] at hk
    rcases hk with rfl | rfl <;> rfl
  rw [lengthOk_iff, hrule]
  exact lengthFrom_admits 2 _

theorem lengthOk_writeBands : lengthOk .writeBands b = true ↔ 1 ≤ b.length ∧ b.length = 1 + 4 * field b 0 1 :=
  lengthOk_iff.trans (lengthFrom_admits 1 _)

end Lengths

/-! ### The statement -/

theorem kindOwner_rse_iff (k : Kind) : kindOwner k = .rse ↔ k ∈ [.route, .reroute, .farCongestion, .farClear,
    .writeDest, .writeRouteSet, .maskChoice, .setFirst, .readDest] := by
  cases k <;> decide

/-- The roles that the catalogue permits each kind to (R169). -/
theorem permits_iff (k : Kind) (role : Role) : permits k role = true ↔ role = .both
    ∨ (role = .call ∧ k ∈ [.route, .confirm, .answer, .release, .reroute])
    ∨ ((role = .call ∨ role = .mgmt) ∧ k ∈ [.queryCall, .farCongestion, .farClear, .readGroup, .readDest,
      .readCongestion, .readAgreement, .readTariff, .readBank, .readTime, .takeNotices, .setNoticeMask,
      .portStatus, .identify])
    ∨ (role = .mgmt ∧ k ∈ [.defineGroup, .setGroupState, .setReserve, .circuitMaint, .writeDest, .writeRouteSet,
      .maskChoice, .setFirst, .writeProfile, .setPeriod, .writeLocalOffer, .writeCarrierOffer, .confirmAgreement,
      .withdrawAgreement, .writeTariff, .writeBands, .closePeriod, .setAutoClose, .releaseBank, .setTime,
      .setGuard, .adoptPort, .exchangeRestart]) := by
  cases role <;> cases k <;> decide

/-- Settles O9: the FIFO by its length, the head by R165, and the catalogue row by row. -/
theorem arrivingFramesMeetTheFifo : Obligations.ArrivingFramesMeetTheFifo := by
  refine ⟨frameArrival_unheard, frameArrival_intact, fun k => ?_, kindOwner_rse_iff, permits_iff, fun b =>
    ⟨fun e he k hk => lengthOk_fixed he hk, lengthOk_defineGroup, lengthOk_readGroup, lengthOk_readCongestion,
      lengthOk_readTariff, lengthOk_writeDest, lengthOk_writeRouteSet, fun k hk => lengthOk_offer hk,
      lengthOk_writeBands⟩⟩
  cases k <;> decide

end Sys2Proof.Machine
end

section
/-! SUPPORT. The coding of requests (R161 to R163, R169, R172, R174, R175): what a field reads back of the bytes that code it, the frame around a body, and the body of every request row. -/

namespace Sys2Proof.Machine

open Sys2Proof

/-! ### Numbers and fields (R172) -/

section Fields

variable {n v w off : Nat} {l : List Byte}

@[simp] theorem beBytes_length (w n : Nat) : (beBytes w n).length = w := by
  induction w with
  | zero => rfl
  | succ w ih => simp [beBytes, ih]

theorem beNat_cons (b : Byte) (l : List Byte) : beNat (b :: l) = b.toNat * 256 ^ l.length + beNat l := by
  induction l using List.reverseRecOn with
  | nil => simp [beNat]
  | append_singleton l x ih =>
    rw [← List.cons_append, beNat_append, beNat_append, ih, List.length_append, List.length_singleton, pow_succ]
    ring

/-- A number that fits its bytes is read back. -/
theorem beNat_beBytes (w n : Nat) : beNat (beBytes w n) = n % 256 ^ w := by
  induction w with
  | zero => simp [beBytes, beNat, Nat.mod_one]
  | succ w ih =>
    rw [beBytes, beNat_cons, ih, beBytes_length, Nat.mod_pow_succ, BitVec.toNat_ofNat]
    ring

@[simp] theorem field_head (h : n < 256 ^ w) (l : List Byte) : field (beBytes w n ++ l) 0 w = n := by
  rw [field, List.drop_zero, List.take_left' (beBytes_length w n), beNat_beBytes, Nat.mod_eq_of_lt h]

@[simp] theorem field_self (h : n < 256 ^ w) : field (beBytes w n) 0 w = n := by
  simpa using field_head h []

/-- A field behind another one. -/
@[simp] theorem field_skip (h : v ≤ off) (m : Nat) (l : List Byte) (w : Nat) :
    field (beBytes v m ++ l) off w = field l (off - v) w := by
  rw [field, field, List.drop_append, List.drop_eq_nil_of_le (by simpa using h), beBytes_length, List.nil_append]

@[simp] theorem drop_beBytes (h : v ≤ off) (m : Nat) (l : List Byte) :
    (beBytes v m ++ l).drop off = l.drop (off - v) := by
  rw [List.drop_append, List.drop_eq_nil_of_le (by simpa using h), beBytes_length, List.nil_append]

/-- An inbound circuit that may be absent (R172, R175). -/
theorem inboundOf_field {i : Option Nat} (h : inboundFits i = true) : inboundOf (field (optBytes 2 i) 0 2) = i := by
  cases i with
  | none => decide
  | some c =>
    have hc : c < 65535 := by simpa [inboundFits] using h
    rw [optBytes, field_self (by omega), inboundOf, if_neg (by omega)]

@[simp] theorem optBytes_length (w : Nat) (i : Option Nat) : (optBytes w i).length = w := by
  cases i <;> simp [optBytes, absent]

end Fields

/-! ### Lists of entries (R169) -/

/-- Entries of one width are read back one by one. -/
theorem entriesOf_flatMap {α : Type} {entry : List Byte → α} {code : α → List Byte} {w : Nat} {l : List α}
    (hlen : ∀ a, (code a).length = w) (hread : ∀ a ∈ l, entry (code a) = a) :
    entriesOf entry w l.length (l.flatMap code) = l := by
  induction l with
  | nil => rfl
  | cons a l ih =>
    obtain ⟨ha, hl⟩ := List.forall_mem_cons.1 hread
    rw [List.length_cons, List.flatMap_cons, entriesOf, List.take_left' (hlen a), List.drop_left' (hlen a), ha, ih hl]

theorem flatMap_length {α : Type} {code : α → List Byte} {w : Nat} (hlen : ∀ a, (code a).length = w) (l : List α) :
    (l.flatMap code).length = w * l.length := by
  simp [List.length_flatMap, hlen, Nat.mul_comm]

/-! ### Maintenance sets (R172) -/

/-- A flag goes in at the low end of a byte. -/
theorem shiftIn_getLsbD (x : Byte) (b : Bool) (i : Nat) : ((x <<< 1) ||| (if b then 1 else 0)).getLsbD i =
    if i = 0 then b else decide (i < 8) && x.getLsbD (i - 1) := by
  cases b <;> rcases i with _ | i <;> simp [BitVec.getLsbD_shiftLeft, BitVec.getLsbD_one]

theorem flagByte_getLsbD (f : Nat → Bool) {j : Nat} (hj : j < 8) : (flagByte f).getLsbD (7 - j) = f j := by
  simp only [flagByte, List.foldl_cons, List.foldl_nil, shiftIn_getLsbD]
  interval_cases j <;> simp

/-- One byte of flags is read back as the marked circuits of its eight. -/
theorem maintOf_flagByte (first : Nat) (maint : List Nat) :
    ([0, 1, 2, 3, 4, 5, 6, 7].filter fun j =>
        (flagByte fun j => decide (first + j ∈ maint)).getLsbD (7 - j)).map (first + ·)
      = (List.range' first 8).filter fun c => decide (c ∈ maint) := by
  have hrange : List.range' first 8 = [0, 1, 2, 3, 4, 5, 6, 7].map (first + ·) := rfl
  rw [hrange, List.filter_map]
  refine congrArg _ (List.filter_congr fun j hj => ?_)
  exact flagByte_getLsbD _ (by simp at hj; omega)

/-- The flags of a run of circuits are read back as the marked circuits among them, in order. -/
theorem maintOf_maintBytes (first : Nat) (maint : List Nat) (n : Nat) :
    maintOf first (maintBytes first maint n) = (List.range' first (8 * n)).filter fun c => decide (c ∈ maint) := by
  induction n generalizing first with
  | zero => rfl
  | succ n ih =>
    rw [maintBytes, maintOf, ih, maintOf_flagByte, Nat.mul_succ, Nat.add_comm (8 * n), ← List.range'_append_1,
      List.filter_append]

/-- An ascending list is what a range that covers it holds of it. -/
theorem filter_range'_mem {first n : Nat} {l : List Nat} (hl : l.Pairwise (· < ·))
    (hr : ∀ c ∈ l, first ≤ c ∧ c < first + n) : (List.range' first n).filter (fun c => decide (c ∈ l)) = l := by
  refine List.Pairwise.eq_of_mem_iff ((List.pairwise_lt_range' 1).filter _) hl fun c => ?_
  rw [List.mem_filter, List.mem_range'_1, decide_eq_true_eq]
  exact ⟨And.right, fun hc => ⟨hr c hc, hc⟩⟩

@[simp] theorem maintBytes_length (first : Nat) (maint : List Nat) (n : Nat) : (maintBytes first maint n).length = n := by
  induction n generalizing first with
  | zero => rfl
  | succ n ih => rw [maintBytes, List.length_cons, ih]

/-! ### Frames (R161 to R163, R174) -/

section Frames

variable (tag kind : Byte) (body : List Byte)

@[simp] theorem field_cons (x : Byte) (l : List Byte) (off w : Nat) : field (x :: l) (off + 1) w = field l off w := rfl

theorem covered_length : (covered tag kind body).length = 4 + body.length := by
  simp [covered]
  omega

theorem requestFrame_eq : requestFrame tag kind body = 0xA5 :: tag :: kind :: (beBytes 2 body.length
    ++ (body ++ beBytes 2 (crcOf (covered tag kind body)).toNat)) := by
  simp [requestFrame, frameOf, covered]

theorem requestFrame_length : (requestFrame tag kind body).length = 7 + body.length := by
  simp [requestFrame_eq]
  omega

variable {body}

theorem requestFrame_declaredLength (h : body.length < 65536) :
    declaredLength (requestFrame tag kind body) = body.length := by
  rw [requestFrame_eq]
  exact field_head h _

/-- The check stands behind the body (R163). -/
theorem requestFrame_check : field (requestFrame tag kind body) (5 + body.length) 2
    = (crcOf (covered tag kind body)).toNat := by
  have hoff : 5 + body.length = 2 + body.length + 1 + 1 + 1 := by omega
  rw [requestFrame_eq, hoff, field_cons, field_cons, field_cons, field_skip (Nat.le_add_right _ _),
    Nat.add_sub_cancel_left, field, List.drop_left' rfl]
  exact field_self (crcOf (covered tag kind body)).isLt

theorem requestFrame_covered :
    ((requestFrame tag kind body).drop 1).take (4 + body.length) = covered tag kind body :=
  List.take_left' (covered_length tag kind body)

/-- A frame whose body fits passes every check of R162, unless a character of it had a faulty stop element. -/
theorem intact_requestFrame (h : body.length ≤ 248) (stopFault : Bool) :
    intact (requestFrame tag kind body) stopFault = !stopFault := by
  have hsync : (requestFrame tag kind body).head? = some 0xA5 := by rw [requestFrame_eq]; rfl
  rw [intact, requestFrame_declaredLength tag kind (by omega), requestFrame_check, requestFrame_covered, hsync,
    requestFrame_length]
  simp
  omega

theorem requestOf_requestFrame (h : body.length ≤ 248) :
    requestOf (requestFrame tag kind body) = ⟨tag, kind, body⟩ := by
  have hbody : ((requestFrame tag kind body).drop 5).take body.length = body := by
    rw [requestFrame_eq]
    exact List.take_left' rfl
  rw [requestOf, requestFrame_declaredLength tag kind (by omega), hbody, requestFrame_eq]
  rfl

end Frames

/-! ### Bodies (R169, R170, R175) -/

/-- `b` is a body of kind `k` that fits a frame, has the length that its kind requires, and asks for `c` on behalf of `r`. -/
structure Spells (r : Requester) (c : Instr) (k : Kind) (b : List Byte) : Prop where
  fits : b.length ≤ 248
  length : lengthOk k b = true
  asks : commandOf r k b = c

section Bodies

variable {r : Requester}

theorem route_spells {dest cls : Nat} {inbound : Option Nat} (hw : (Instr.route r dest cls inbound).wf = true) :
    Spells r (.route r dest cls inbound) .route (beBytes 2 dest ++ beBytes 1 cls ++ optBytes 2 inbound) := by
  simp only [Instr.wf, fits1, fits2, Bool.and_eq_true, decide_eq_true_eq] at hw
  obtain ⟨⟨hd, hc⟩, hi⟩ := hw
  exact ⟨by simp, by simp [lengthOk, requiredLength], by simp [commandOf, hd, hc, inboundOf_field hi]⟩

/-! The rows that carry their form as coded (log entry 6). -/

theorem defineGroupRemove_spells {group form : Nat} (hw : (Instr.defineGroupRemove r group form).wf = true) :
    Spells r (.defineGroupRemove r group form) .defineGroup (beBytes 1 group ++ beBytes 1 form) := by
  simp only [Instr.wf, fits1, Bool.and_eq_true, decide_eq_true_eq] at hw
  obtain ⟨⟨hg, hf⟩, h0⟩ := hw
  exact ⟨by simp, lengthOk_defineGroup.2 (by simp [hf, h0]), by simp [commandOf, hg, hf]⟩

theorem readGroupSummary_spells {group form : Nat} (hw : (Instr.readGroupSummary r group form).wf = true) :
    Spells r (.readGroupSummary r group form) .readGroup (beBytes 1 group ++ beBytes 1 form) := by
  simp only [Instr.wf, fits1, Bool.and_eq_true, decide_eq_true_eq] at hw
  obtain ⟨⟨hg, hf⟩, h1, h2⟩ := hw
  exact ⟨by simp, lengthOk_readGroup.2 (by simp [hf, h1, h2]), by simp [commandOf, hg, hf]⟩

theorem readCongestionPeriod_spells {form : Nat} (hw : (Instr.readCongestionPeriod r form).wf = true) :
    Spells r (.readCongestionPeriod r form) .readCongestion (beBytes 1 form) := by
  simp only [Instr.wf, fits1, Bool.and_eq_true, decide_eq_true_eq] at hw
  obtain ⟨hf, h0, h1⟩ := hw
  exact ⟨by simp, lengthOk_readCongestion.2 (by simp [hf, h0, h1]), by simp [commandOf, hf]⟩

theorem readTariffBand_spells {form copy : Nat} (hw : (Instr.readTariffBand r form copy).wf = true) :
    Spells r (.readTariffBand r form copy) .readTariff (beBytes 1 form ++ beBytes 1 copy) := by
  simp only [Instr.wf, fits1, Bool.and_eq_true, decide_eq_true_eq] at hw
  obtain ⟨⟨hf, hc⟩, h0⟩ := hw
  exact ⟨by simp, lengthOk_readTariff.2 (by simp [hf, h0]), by simp [commandOf, hf, hc]⟩

/-! The rows that carry a list. -/

theorem defineGroupDefine_spells {group : Nat} {a : GroupArg} (hw : (Instr.defineGroupDefine r group a).wf = true) :
    Spells r (.defineGroupDefine r group a) .defineGroup (beBytes 1 group ++ beBytes 1 0 ++ beBytes 2 a.first
      ++ beBytes 2 a.count ++ beBytes 1 a.direction ++ beBytes 1 a.carrier ++ beBytes 1 a.glare ++ beBytes 2 a.reserve
      ++ beBytes 1 a.profile ++ maintBytes a.first a.maint (maintLength a.count)) := by
  simp only [Instr.wf, groupFits, maintFits, fits1, fits2, Bool.and_eq_true, decide_eq_true_eq, List.all_eq_true] at hw
  obtain ⟨hg, ⟨⟨⟨⟨⟨⟨⟨hfirst, hcount⟩, hdir⟩, hcar⟩, hglare⟩, hres⟩, hprof⟩, hsorted, hin⟩, hlen⟩ := hw
  have hmaint : maintOf a.first (maintBytes a.first a.maint (maintLength a.count)) = a.maint :=
    (maintOf_maintBytes _ _ _).trans (filter_range'_mem hsorted hin)
  refine ⟨?_, lengthOk_defineGroup.2 ?_, ?_⟩
  · simp [maintLength]
    omega
  · simp [maintLength, hcount]
    omega
  · simp [commandOf, hg, hfirst, hcount, hdir, hcar, hglare, hres, hprof, hmaint]

/-- A list of entries of `w` bytes behind `lead` bytes. -/
theorem length_append_flatMap {α : Type} {code : α → List Byte} {w : Nat} (hlen : ∀ a, (code a).length = w)
    (lead : List Byte) (l : List α) : (lead ++ l.flatMap code).length = lead.length + w * l.length := by
  rw [List.length_append, flatMap_length hlen]

theorem listFits_iff {lead w n : Nat} : listFits lead w n = true ↔ lead + w * n ≤ 248 := decide_eq_true_iff

/-- The code of a route choice in WRITE_DEST (R169). -/
def choiceCode (c : ChoiceArg) : List Byte :=
  beBytes 1 c.kind ++ beBytes 2 c.target ++ beBytes 1 c.rank ++ beBytes 1 c.mask

/-- The route choice that five bytes code. -/
def choiceRead (e : List Byte) : ChoiceArg := ⟨field e 0 1, field e 1 2, field e 3 1, field e 4 1⟩

theorem choiceRead_choiceCode {c : ChoiceArg} (h : choiceFits c = true) : choiceRead (choiceCode c) = c := by
  simp only [choiceFits, fits1, fits2, Bool.and_eq_true, decide_eq_true_eq] at h
  simp [choiceRead, choiceCode, h]

theorem writeDest_spells {dest : Nat} {rotate : Byte} {choices : List ChoiceArg}
    (hw : (Instr.writeDest r dest rotate choices).wf = true) :
    Spells r (.writeDest r dest rotate choices) .writeDest
      (beBytes 2 dest ++ [rotate] ++ beBytes 1 choices.length ++ choices.flatMap choiceCode) := by
  simp only [Instr.wf, fits2, Bool.and_eq_true, decide_eq_true_eq, listFits_iff] at hw
  obtain ⟨⟨hd, hc⟩, hl⟩ := hw
  have hn : choices.length < 256 := by omega
  have hcode : ∀ c, (choiceCode c).length = 5 := fun c => by simp [choiceCode]
  have hlen : (beBytes 2 dest ++ [rotate] ++ beBytes 1 choices.length ++ choices.flatMap choiceCode).length
      = 4 + 5 * choices.length := (length_append_flatMap hcode _ _).trans (by simp)
  have hread := entriesOf_flatMap hcode fun c hm => choiceRead_choiceCode (List.all_eq_true.1 hc c hm)
  unfold choiceRead at hread
  refine ⟨hlen.trans_le hl, lengthOk_writeDest.2 ?_, ?_⟩
  · rw [hlen]
    simp [hn]
  · simp [commandOf, hd, hn, hread]

/-- The code of an entry in WRITE_ROUTE_SET (R169). -/
def entryCode (e : SetEntryArg) : List Byte := beBytes 1 e.kind ++ beBytes 2 e.number

/-- The entry that three bytes code. -/
def entryRead (e : List Byte) : SetEntryArg := ⟨field e 0 1, field e 1 2⟩

theorem entryRead_entryCode {e : SetEntryArg} (h : entryFits e = true) : entryRead (entryCode e) = e := by
  simp only [entryFits, fits1, fits2, Bool.and_eq_true, decide_eq_true_eq] at h
  simp [entryRead, entryCode, h]

theorem writeRouteSet_spells {set : Nat} {entries : List SetEntryArg}
    (hw : (Instr.writeRouteSet r set entries).wf = true) :
    Spells r (.writeRouteSet r set entries) .writeRouteSet
      (beBytes 2 set ++ beBytes 1 entries.length ++ entries.flatMap entryCode) := by
  simp only [Instr.wf, fits2, Bool.and_eq_true, decide_eq_true_eq, listFits_iff] at hw
  obtain ⟨⟨hs, he⟩, hl⟩ := hw
  have hn : entries.length < 256 := by omega
  have hcode : ∀ e, (entryCode e).length = 3 := fun e => by simp [entryCode]
  have hlen : (beBytes 2 set ++ beBytes 1 entries.length ++ entries.flatMap entryCode).length
      = 3 + 3 * entries.length := (length_append_flatMap hcode _ _).trans (by simp)
  have hread := entriesOf_flatMap hcode fun e hm => entryRead_entryCode (List.all_eq_true.1 he e hm)
  unfold entryRead at hread
  refine ⟨hlen.trans_le hl, lengthOk_writeRouteSet.2 ?_, ?_⟩
  · rw [hlen]
    simp [hn]
  · simp [commandOf, hs, hn, hread]

/-- The code of a switch point in WRITE_BANDS (R169). -/
def pointCode (p : SwitchPoint) : List Byte := beBytes 3 p.second ++ beBytes 1 p.band

/-- The switch point that four bytes code. -/
def pointRead (e : List Byte) : SwitchPoint := ⟨field e 0 3, field e 3 1⟩

theorem pointRead_pointCode {p : SwitchPoint} (h : pointFits p = true) : pointRead (pointCode p) = p := by
  simp only [pointFits, fits1, fits3, Bool.and_eq_true, decide_eq_true_eq] at h
  simp [pointRead, pointCode, h]

theorem writeBands_spells {points : List SwitchPoint} (hw : (Instr.writeBands r points).wf = true) :
    Spells r (.writeBands r points) .writeBands (beBytes 1 points.length ++ points.flatMap pointCode) := by
  simp only [Instr.wf, Bool.and_eq_true, listFits_iff] at hw
  obtain ⟨hp, hl⟩ := hw
  have hn : points.length < 256 := by omega
  have hcode : ∀ p, (pointCode p).length = 4 := fun p => by simp [pointCode]
  have hlen : (beBytes 1 points.length ++ points.flatMap pointCode).length = 1 + 4 * points.length :=
    (length_append_flatMap hcode _ _).trans (by simp)
  have hread := entriesOf_flatMap hcode fun p hm => pointRead_pointCode (List.all_eq_true.1 hp p hm)
  unfold pointRead at hread
  refine ⟨hlen.trans_le hl, lengthOk_writeBands.2 ?_, ?_⟩
  · rw [hlen]
    simp [hn]
  · simp [commandOf, hn, hread]

/-- The slots of an offer, in both of its rows. -/
theorem offer_spells {carrier : Nat} {slots : List Nat}
    (hw : (fits1 carrier && slots.all fits1 && listFits 2 1 slots.length) = true) :
    Spells r (.writeLocalOffer r carrier slots) .writeLocalOffer
        (beBytes 1 carrier ++ beBytes 1 slots.length ++ slots.flatMap (beBytes 1))
      ∧ Spells r (.writeCarrierOffer r carrier slots) .writeCarrierOffer
        (beBytes 1 carrier ++ beBytes 1 slots.length ++ slots.flatMap (beBytes 1)) := by
  simp only [Bool.and_eq_true, listFits_iff] at hw
  obtain ⟨⟨hc, hs⟩, hl⟩ := hw
  rw [fits1, decide_eq_true_eq] at hc
  have hn : slots.length < 256 := by omega
  have hlen : (beBytes 1 carrier ++ beBytes 1 slots.length ++ slots.flatMap (beBytes 1)).length = 2 + 1 * slots.length :=
    (length_append_flatMap (beBytes_length 1) _ _).trans (by simp)
  have hread : entriesOf (fun e => field e 0 1) 1 slots.length (slots.flatMap (beBytes 1)) = slots :=
    entriesOf_flatMap (beBytes_length 1) fun n hm => field_self (decide_eq_true_iff.1 (List.all_eq_true.1 hs n hm))
  have hok : ∀ k ∈ [Kind.writeLocalOffer, .writeCarrierOffer], lengthOk k
      (beBytes 1 carrier ++ beBytes 1 slots.length ++ slots.flatMap (beBytes 1)) = true := fun k hk =>
    (lengthOk_offer hk).2 (by rw [hlen]; simp [hn])
  exact ⟨⟨hlen.trans_le hl, hok _ (by simp), by simp [commandOf, hc, hn, hread]⟩,
    ⟨hlen.trans_le hl, hok _ (by simp), by simp [commandOf, hc, hn, hread]⟩⟩

/-- Every well-formed request command is spelt by the body that a master writes for it. -/
theorem bodyOf_spells {c : Instr} (hw : c.wf = true) (hr : c.requester? = some r) :
    ∃ k b, bodyOf c = some (k, b) ∧ Spells r c k b := by
  cases c with
  | powerOnReset _ | millisecondTick | lineIndicationLost _ | lineIndicationGood _ | linkUp _ | frameArrival _ _ _
  | engineGrant | replySent _ | guardExpiry _ | gapExpiry _ | restrictionEnd _ | periodEnd | automaticClose => cases hr
  | route r' _ _ _ => exact Option.some.inj hr ▸ ⟨_, _, rfl, route_spells hw⟩
  | defineGroupDefine r' _ _ => exact Option.some.inj hr ▸ ⟨_, _, rfl, defineGroupDefine_spells hw⟩
  | defineGroupRemove r' _ _ => exact Option.some.inj hr ▸ ⟨_, _, rfl, defineGroupRemove_spells hw⟩
  | readGroupSummary r' _ _ => exact Option.some.inj hr ▸ ⟨_, _, rfl, readGroupSummary_spells hw⟩
  | readCongestionPeriod r' _ => exact Option.some.inj hr ▸ ⟨_, _, rfl, readCongestionPeriod_spells hw⟩
  | readTariffBand r' _ _ => exact Option.some.inj hr ▸ ⟨_, _, rfl, readTariffBand_spells hw⟩
  | writeDest r' _ _ _ => exact Option.some.inj hr ▸ ⟨_, _, rfl, writeDest_spells hw⟩
  | writeRouteSet r' _ _ => exact Option.some.inj hr ▸ ⟨_, _, rfl, writeRouteSet_spells hw⟩
  | writeBands r' _ => exact Option.some.inj hr ▸ ⟨_, _, rfl, writeBands_spells hw⟩
  | writeLocalOffer r' _ _ => exact Option.some.inj hr ▸ ⟨_, _, rfl, (offer_spells hw).1⟩
  | writeCarrierOffer r' _ _ => exact Option.some.inj hr ▸ ⟨_, _, rfl, (offer_spells hw).2⟩
  | _ =>
    obtain rfl := Option.some.inj hr
    simp only [Instr.wf, fits1, fits2, fits3, profileFits, tariffFits, Bool.and_eq_true, decide_eq_true_eq] at hw
    exact ⟨_, _, rfl, by simp, by simp [lengthOk, requiredLength, lengthFrom], by simp [commandOf, hw]⟩

end Bodies

/-- Settles O7: the frame gives back what it was built around, and each body the command that it was written for. -/
theorem requestsRoundTrip : Obligations.RequestsRoundTrip := by
  refine ⟨fun tag kind body h => ⟨requestFrame_length tag kind body, intact_requestFrame tag kind h false,
    requestOf_requestFrame tag kind h, intact_requestFrame tag kind h true⟩, fun c r hw hr => ?_⟩
  obtain ⟨k, b, hb, hs⟩ := bodyOf_spells hw hr
  exact ⟨k, b, hb, hs.fits, hs.length, hs.asks⟩

/-! ### From the line to the owning block (R161 to R166) -/

section Service

variable {c : Instr} {p : PortId} {s : State} {k : Kind} {b : List Byte} {tag : Byte} {role : Role}

/-- The request that carries a body of kind `k`. -/
def requestFor (tag : Byte) (k : Kind) (b : List Byte) : Request := ⟨tag, BitVec.ofNat 8 (kindCode k), b⟩

theorem kindCode_lt (k : Kind) : kindCode k < 256 := by cases k <;> decide

theorem requestFor_kind (tag : Byte) (k : Kind) (b : List Byte) : kindCode k = (requestFor tag k b).kind.toNat := by
  simp [requestFor, Nat.mod_eq_of_lt (kindCode_lt k)]

theorem Spells.asksFor {r : Requester} (hs : Spells r c k b) (tag : Byte) : asksFor r c (requestFor tag k b) = true :=
  (asksFor_iff r c _).2 ⟨k, kindOf_eq_some_iff.2 (requestFor_kind tag k b), hs.asks⟩

/-- The request that a first frame brings to the head of a FIFO. -/
theorem receiveFrame_first (hs : Spells (.head p) c k b) (hrole : permits k (s.port p).role = true)
    (hup : (s.port p).link = .up) (hf : (s.port p).fifo = []) (tag : Byte) :
    receiveFrame s.now (requestFrame tag (BitVec.ofNat 8 (kindCode k)) b) false (s.port p) =
      { s.port p with fifo := [requestFor tag k b], stage := if kindOwner k = .rse then .waiting else .checked,
                      headAt := s.now } := by
  rw [receiveFrame_intact hup (intact_requestFrame _ _ hs.fits false), requestOf_requestFrame _ _ hs.fits,
    takeRequest_first hf]
  exact ((checkHead_headTaken rfl s.now).2 k (requestFor_kind tag k b)).2.2 hs.length hrole

/-- A granted head stands in service (R58). -/
theorem grant_inService {q : Request} {rest : List Request} (hf : (s.port p).fifo = q :: rest)
    (hq : asksFor (.head p) c q = true) : (grant p s).inService (.head p) c = true := by
  have hport : (grant p s).port p = { s.port p with stage := .inService } := (grant_port p p s).trans (if_pos rfl)
  exact inService_head_of_asks (.inl (congrArg Port.stage hport)) ((congrArg Port.fifo hport).trans hf) hq

/-- Settles O8: the first frame's request passes the checks, and asks for the command that its body was written for. -/
theorem wellFormedFramesReachService : Obligations.WellFormedFramesReachService := by
  intro c p s k b tag hw hr hb hrole hup hf
  obtain ⟨k', b', hb', hs⟩ := bodyOf_spells hw hr
  obtain ⟨rfl, rfl⟩ := Prod.mk.inj (Option.some.inj (hb.symm.trans hb'))
  have hport := (setPort_port_self (s := s) (p := p)).trans (receiveFrame_first hs hrole hup hf tag)
  refine ⟨_, rfl, ?_, ?_, setPort_otherPorts, setPort_sameBut s p _, fun hown => ?_, fun hown => ?_⟩
  · rw [hport]
    rfl
  · rw [hport]
  · have hst := congrArg Port.stage hport
    simp only [if_neg hown] at hst
    exact ⟨hst, inService_head_of_asks (.inr hst) (congrArg Port.fifo hport) (hs.asksFor tag)⟩
  · have hst := congrArg Port.stage hport
    simp only [if_pos hown] at hst
    exact ⟨hst, grant_inService (congrArg Port.fifo hport) (hs.asksFor tag)⟩

end Service

end Sys2Proof.Machine
end

section
/-! SUPPORT. No block's part in a request depends on what the ports hold but for their roles (R43, R160): what it makes of the other blocks is the same whatever FIFOs, reply lists, notices and flags there are. -/

namespace Sys2Proof.Machine

open Sys2Proof

/-! ### States that differ in PCT alone -/

/-- The state with other port states. -/
def State.withPorts (s : State) (x : Ports) : State := { s with pct := x }

/-- What `f` makes of the other blocks does not depend on what the ports hold. -/
def Blind (f : State → State) : Prop := ∀ s t, s.SameBut [.pct] t → (f s).SameBut [.pct] (f t)

section Ports

variable {s t u : State} {f g : State → State} {x : Ports}

theorem withPorts_sameBut (s : State) (x : Ports) : s.SameBut [.pct] (s.withPorts x) := sameBut_pct s x

theorem eq_withPorts (h : s.SameBut [.pct] t) : t = s.withPorts t.pct := by
  obtain ⟨-, h1, h2, h3, h4, h5, h6, h7, h8, h9⟩ := h
  simp only [List.mem_singleton, reduceCtorEq, false_or] at h1 h2 h3 h4 h5 h6 h7 h8
  cases t
  simp only [State.withPorts] at *
  simp only [h1, h2, h3, h4, h5, h6, h7, h8, h9]

theorem blind_of (hf : ∀ s x, (f s).SameBut [.pct] (f (s.withPorts x))) : Blind f := fun s t h => by
  rw [eq_withPorts h]
  exact hf s t.pct

theorem Blind.comp (hg : Blind g) (hf : Blind f) : Blind fun s => g (f s) := fun _ _ h => hg _ _ (hf _ _ h)

theorem State.SameBut.symm (h : s.SameBut [.pct] t) : t.SameBut [.pct] s := by
  rw [eq_withPorts h]
  exact withPorts_sameBut _ s.pct

/-- Two states that agree but for PCT still do when each changes in PCT alone. -/
theorem State.SameBut.both {s' t' : State} (h : s.SameBut [.pct] t) (hs : s.SameBut [.pct] s')
    (ht : t.SameBut [.pct] t') : s'.SameBut [.pct] t' := (hs.symm.trans h).trans ht

/-- An operation on the ports alone is blind to them. -/
theorem blind_of_pct (hf : ∀ s : State, s.SameBut [.pct] (f s)) : Blind f := fun s t h => h.both (hf s) (hf t)

theorem raiseAll_blind (b : NoticeBody) : Blind fun s => s.raiseAll b := blind_of_pct fun s => raiseAll_sameBut s b

theorem raiseTo_blind (p : PortId) (b : NoticeBody) : Blind fun s => s.raiseTo p b :=
  blind_of_pct fun s => raiseTo_sameBut s p b

/-! What the blocks read of one another reads the same. (Where a condition is decided from such a reading, the two states decide it apart, and a proof below takes the cases of the condition by `by_cases` rather than by `split`.) -/

@[simp] theorem withPorts_group (g : Nat) : (s.withPorts x).group g = s.group g := rfl
@[simp] theorem withPorts_groupOf (c : Nat) : (s.withPorts x).groupOf c = s.groupOf c := rfl
@[simp] theorem withPorts_circuit (c : Nat) : (s.withPorts x).circuit c = s.circuit c := rfl
@[simp] theorem withPorts_call (i : Nat) : (s.withPorts x).call i = s.call i := rfl
@[simp] theorem withPorts_gen (i : Nat) : (s.withPorts x).gen i = s.gen i := rfl
@[simp] theorem withPorts_dest (d : Nat) : (s.withPorts x).dest d = s.dest d := rfl
@[simp] theorem withPorts_agreement (c : Nat) : (s.withPorts x).agreement c = s.agreement c := rfl
@[simp] theorem withPorts_bank (k : BankId) : (s.withPorts x).bank k = s.bank k := by cases k <;> rfl
@[simp] theorem withPorts_now : (s.withPorts x).now = s.now := rfl
@[simp] theorem withPorts_cpl : (s.withPorts x).cpl = s.cpl := rfl
@[simp] theorem withPorts_crt : (s.withPorts x).crt = s.crt := rfl
@[simp] theorem withPorts_sts : (s.withPorts x).sts = s.sts := rfl
@[simp] theorem withPorts_reserverOf (c : Nat) : (s.withPorts x).reserverOf c = s.reserverOf c := rfl
@[simp] theorem withPorts_findOwnCall (p : PortId) (i g : Nat) :
    findOwnCall (s.withPorts x) p i g = findOwnCall s p i g := rfl
@[simp] theorem withPorts_checkInbound (c : Nat) : checkInbound (s.withPorts x) c = checkInbound s c := rfl
@[simp] theorem withPorts_overlaps (g : Nat) (a : GroupArg) : overlaps (s.withPorts x) g a = overlaps s g a := rfl
@[simp] theorem withPorts_mustDefer : mustDefer (s.withPorts x) = mustDefer s := by
  simp only [mustDefer, withPorts_bank, withPorts_sts]

end Ports

/-! ### The circuit pool -/

section Pool

theorem outboundHunt_blind (g c : Nat) : Blind (outboundHunt g c) := blind_of fun s x => by
  simp only [outboundHunt, withPorts_group]
  split <;> exact withPorts_sameBut _ x

theorem inboundTake_blind (g c : Nat) : Blind (inboundTake g c) := blind_of fun s x => by
  simp only [inboundTake, withPorts_group]
  split <;> exact withPorts_sameBut _ x

theorem holdCircuit_blind (c : Nat) : Blind (holdCircuit c) := blind_of fun _ x => withPorts_sameBut _ x

theorem freeCircuit_blind (g c : Nat) : Blind (freeCircuit g c) := blind_of fun s x => by
  simp only [freeCircuit, withPorts_group]
  split
  · exact withPorts_sameBut _ x
  split
  · exact raiseAll_blind _ _ _ (withPorts_sameBut _ x)
  · exact withPorts_sameBut _ x

theorem freeOutbound_blind (r : CallRecord) : Blind (freeOutbound r) := fun s t h => by
  unfold freeOutbound
  split
  · exact freeCircuit_blind _ _ s t h
  · exact h

theorem freeInbound_blind (r : CallRecord) : Blind (freeInbound r) := fun s t h => by
  unfold freeInbound
  split
  · exact freeCircuit_blind _ _ s t h
  · exact h

theorem holdOutbound_blind (r : CallRecord) : Blind (holdOutbound r) := fun s t h => by
  unfold holdOutbound
  split
  · exact holdCircuit_blind _ s t h
  · exact h

theorem defineGroup_blind (g : Nat) (a : GroupArg) : Blind fun s => (defineGroup g a s).2 := blind_of fun s x => by
  simp only [defineGroup, withPorts_group, withPorts_overlaps]
  split
  · exact withPorts_sameBut s x
  split
  · exact withPorts_sameBut s x
  by_cases hmay : (!mayRedefine (s.group g)) = true
  · simp only [hmay, ↓reduceIte]
    exact withPorts_sameBut s x
  simp only [hmay]
  by_cases hover : overlaps s g a = true
  · simp only [hover, ↓reduceIte]
    exact withPorts_sameBut s x
  · simp only [hover]
    exact withPorts_sameBut _ x

theorem removeGroup_blind (g form : Nat) : Blind fun s => (removeGroup g form s).2 := blind_of fun s x => by
  simp only [removeGroup, withPorts_group]
  split
  · exact withPorts_sameBut s x
  by_cases hmay : (!mayRedefine (s.group g)) = true
  · simp only [hmay, ↓reduceIte]
    exact withPorts_sameBut s x
  · simp only [hmay]
    exact withPorts_sameBut _ x

theorem blockGroup_blind (g : Nat) : Blind fun s => (blockGroup g s).2 := blind_of fun s x => by
  simp only [blockGroup, withPorts_group]
  split
  · exact withPorts_sameBut s x
  split <;> exact withPorts_sameBut _ x

theorem unblockGroup_blind (g form : Nat) : Blind fun s => (unblockGroup g form s).2 := blind_of fun s x => by
  simp only [unblockGroup, withPorts_group]
  split
  · exact withPorts_sameBut s x
  split <;> exact withPorts_sameBut _ x

theorem setReserve_blind (g n : Nat) : Blind fun s => (setReserve g n s).2 := blind_of fun s x => by
  simp only [setReserve, withPorts_group]
  split
  · exact withPorts_sameBut s x
  split <;> exact withPorts_sameBut _ x

theorem moveCircuit_blind (g c : Nat) (v : Circuit) (list : List Nat → List Nat) : Blind (moveCircuit g c v list) :=
  blind_of fun s x => by
    simp only [moveCircuit, withPorts_group]
    split <;> exact withPorts_sameBut _ x

theorem takeOut_blind (g c : Nat) : Blind (takeOut g c) := blind_of fun s x => by
  simp only [takeOut, withPorts_circuit]
  split
  · exact moveCircuit_blind _ _ _ _ _ _ (withPorts_sameBut s x)
  all_goals exact withPorts_sameBut _ x

theorem putBack_blind (g c : Nat) : Blind (putBack g c) := blind_of fun s x => by
  simp only [putBack, withPorts_circuit]
  split
  · exact moveCircuit_blind _ _ _ _ _ _ (withPorts_sameBut s x)
  all_goals exact withPorts_sameBut _ x

theorem circuitOut_blind (c : Nat) : Blind fun s => (circuitOut c s).2 := blind_of fun s x => by
  simp only [circuitOut, withPorts_groupOf]
  split
  · exact withPorts_sameBut s x
  split
  · exact withPorts_sameBut s x
  · exact takeOut_blind _ _ _ _ (withPorts_sameBut s x)

theorem circuitReturn_blind (c form : Nat) : Blind fun s => (circuitReturn c form s).2 := blind_of fun s x => by
  simp only [circuitReturn, withPorts_groupOf]
  split
  · exact withPorts_sameBut s x
  split
  · exact withPorts_sameBut s x
  · exact putBack_blind _ _ _ _ (withPorts_sameBut s x)

end Pool

/-! ### Call records -/

section Calls

theorem freeRecord_blind (i : Nat) : Blind (freeRecord i) := blind_of fun _ x => withPorts_sameBut _ x

theorem setCall_blind (i : Nat) (r : Option CallRecord) : Blind fun s => s.setCall i r :=
  blind_of fun _ x => withPorts_sameBut _ x

theorem makeRecord_blind (i : Nat) (r : CallRecord) : Blind (makeRecord i r) := blind_of fun _ x => withPorts_sameBut _ x

theorem confirmCall_blind (p : PortId) (i g : Nat) : Blind fun s => (confirmCall p i g s).2 := blind_of fun s x => by
  simp only [confirmCall, withPorts_findOwnCall]
  split
  · exact withPorts_sameBut s x
  split
  · exact holdOutbound_blind _ _ _ (setCall_blind _ _ _ _ (withPorts_sameBut s x))
  all_goals exact withPorts_sameBut s x

theorem answerCall_blind (p : PortId) (i g : Nat) : Blind fun s => (answerCall p i g s).2 := blind_of fun s x => by
  simp only [answerCall, withPorts_findOwnCall]
  split
  · exact withPorts_sameBut s x
  split <;> exact withPorts_sameBut _ x

theorem accumulateLeg_blind (leg : Option RatedLeg) : Blind (accumulateLeg leg) := blind_of fun s x => by
  cases leg with
  | none => exact withPorts_sameBut s x
  | some l =>
    simp only [accumulateLeg, accumulate, withPorts_bank, withPorts_sts]
    exact withPorts_sameBut _ x

theorem freeCall_blind (i : Nat) (r : CallRecord) : Blind (freeCall i r) :=
  (freeRecord_blind i).comp ((freeInbound_blind r).comp (freeOutbound_blind r))

theorem releaseRated_blind (i : Nat) (r : CallRecord) : Blind fun s => (releaseRated i r s).2 := blind_of fun s x =>
  freeCall_blind i r _ _ (accumulateLeg_blind (receivableLeg s r) _ _
    (accumulateLeg_blind (payableLeg s r) _ _ (withPorts_sameBut s x)))

theorem releaseCall_blind (p : PortId) (i g : Nat) : Blind fun s => (releaseCall p i g s).2 := blind_of fun s x => by
  simp only [releaseCall, withPorts_findOwnCall]
  split
  · exact withPorts_sameBut s x
  split
  case h_4 => exact freeRecord_blind _ _ _ (freeInbound_blind _ _ _ (withPorts_sameBut s x))
  all_goals exact releaseRated_blind _ _ _ _ (withPorts_sameBut s x)

/-- ADOPT_PORT reads one role (R43). -/
theorem adoptPort_sameRoles {s t : State} (h : s.SameBut [.pct] t) (hrole : ∀ p, (t.port p).role = (s.port p).role)
    (m n : Nat) : (adoptPort m n s).2.SameBut [.pct] (adoptPort m n t).2 := by
  simp only [adoptPort, hrole]
  split
  · split
    · exact h
    · rw [eq_withPorts h]
      exact raiseTo_blind _ _ _ _ (withPorts_sameBut _ _)
  · exact h

theorem exchangeRestart_blind : Blind fun s => (exchangeRestart s).2 := blind_of fun _ x => withPorts_sameBut _ x

end Calls

/-! ### Routes -/

section Routes

theorem setDest_blind (d : Nat) (r : Dest) : Blind fun s => s.setDest d r := blind_of fun _ x => withPorts_sameBut _ x

theorem settleDest_blind (d : Nat) (cls : CallClass) (w : Winner) : Blind (settleDest d cls w) :=
  blind_of fun _ x => withPorts_sameBut _ x

/-- The walk reads no port (R60 to R64). -/
theorem selectRoute_withPorts (d : Nat) (cls : CallClass) (inbound : Option Nat) (s : State) (x : Ports) :
    selectRoute d cls inbound (s.withPorts x)
      = ((selectRoute d cls inbound s).1, (selectRoute d cls inbound s).2.withPorts x) := by
  have hwalk := walkFrom_congr (s := s) (t := s.withPorts x) (cls := cls) (inbound := inbound) rfl rfl rfl
  have hcand := candidates_congr (s := s) (t := s.withPorts x) rfl
  simp only [selectRoute, withPorts_dest, withPorts_now, hwalk, hcand]
  split
  · rfl
  split <;> rfl

theorem displace_blind (c : Nat) : Blind (displace c) := blind_of fun s x => by
  simp only [displace, withPorts_reserverOf, withPorts_call]
  split
  · exact withPorts_sameBut s x
  split
  · exact withPorts_sameBut s x
  · exact raiseTo_blind _ _ _ _ (withPorts_sameBut _ x)

theorem takeInbound_blind (plan : InboundPlan) : Blind (takeInbound plan) := by
  cases plan with
  | originating => exact fun _ _ h => h
  | take g c => exact inboundTake_blind g c
  | displaced g c => exact holdCircuit_blind c

theorem dropInbound_blind (plan : InboundPlan) : Blind (dropInbound plan) := by
  cases plan with
  | originating | take _ _ => exact fun _ _ h => h
  | displaced g c => exact freeCircuit_blind g c

theorem completeRoute_blind (p : PortId) (d : Nat) (cls : CallClass) (plan : InboundPlan) (i : Nat) (w : Winner) :
    Blind fun s => (completeRoute p d cls plan i w s).2 := blind_of fun s x => by
  have hrecord : routedRecord (s.withPorts x) p d cls plan w = routedRecord s p d cls plan w := by
    cases plan <;> rfl
  simp only [completeRoute, hrecord]
  exact settleDest_blind d cls w _ _ (makeRecord_blind i _ _ _ (outboundHunt_blind _ _ _ _
    (takeInbound_blind plan _ _ (withPorts_sameBut s x))))

theorem routeWith_blind (p : PortId) (d : Nat) (cls : CallClass) (plan : InboundPlan) (i : Nat) :
    Blind fun s => (routeWith p d cls plan i s).2 := blind_of fun s x => by
  simp only [routeWith, selectRoute_withPorts]
  obtain ⟨res, u⟩ := selectRoute d cls (planGroup plan) s
  cases res with
  | error reason => exact dropInbound_blind plan _ _ (withPorts_sameBut u x)
  | ok w => exact completeRoute_blind p d cls plan i w _ _ (withPorts_sameBut u x)

theorem routeInbound_blind (p : PortId) (d : Nat) (cls : CallClass) (inb : Option Nat) (i : Nat) :
    Blind fun s => (routeInbound p d cls inb i s).2 := blind_of fun s x => by
  cases inb with
  | none => exact routeWith_blind p d cls _ i _ _ (withPorts_sameBut s x)
  | some c =>
    simp only [routeInbound, withPorts_checkInbound]
    split
    · exact withPorts_sameBut s x
    · exact routeWith_blind p d cls _ i _ _ (withPorts_sameBut s x)
    · exact routeWith_blind p d cls _ i _ _ (displace_blind c _ _ (withPorts_sameBut s x))

theorem routeCall_blind (p : PortId) (d cls : Nat) (inb : Option Nat) : Blind fun s => (routeCall p d cls inb s).2 :=
  blind_of fun s x => by
    simp only [routeCall, withPorts_crt]
    split
    · exact withPorts_sameBut s x
    split
    · exact withPorts_sameBut s x
    split
    · exact withPorts_sameBut s x
    · exact routeInbound_blind p d _ inb _ _ _ (withPorts_sameBut s x)

theorem completeReroute_blind (i g : Nat) (r : CallRecord) (w : Winner) :
    Blind fun s => (completeReroute i g r w s).2 := blind_of fun s x =>
  settleDest_blind r.dest r.cls w _ _ (setCall_blind i _ _ _ (outboundHunt_blind w.group w.circuit _ _
    (withPorts_sameBut s x)))

theorem rerouteRecord_blind (i g : Nat) (r : CallRecord) : Blind fun s => (rerouteRecord i g r s).2 :=
  blind_of fun s x => by
    simp only [rerouteRecord, selectRoute_withPorts]
    generalize selectRoute r.dest r.cls _ s = selected
    obtain ⟨res, u⟩ := selected
    cases res with
    | error reason => exact withPorts_sameBut u x
    | ok w => exact completeReroute_blind i g r w _ _ (withPorts_sameBut u x)

theorem rerouteCall_blind (p : PortId) (i g : Nat) : Blind fun s => (rerouteCall p i g s).2 := blind_of fun s x => by
  simp only [rerouteCall, withPorts_findOwnCall]
  split
  · exact withPorts_sameBut s x
  split
  · exact rerouteRecord_blind i g _ _ _ (withPorts_sameBut s x)
  all_goals exact withPorts_sameBut s x

theorem writeDest_blind (d : Nat) (b : Byte) (l : List ChoiceArg) : Blind fun s => (writeDest d b l s).2 :=
  blind_of fun s x => by
    simp only [writeDest, withPorts_dest]
    split
    · exact withPorts_sameBut s x
    split <;> exact withPorts_sameBut _ x

theorem writeRouteSet_blind (n : Nat) (l : List SetEntryArg) : Blind fun s => (writeRouteSet n l s).2 :=
  blind_of fun s x => by
    simp only [writeRouteSet]
    split <;> exact withPorts_sameBut _ x

theorem maskChoice_blind (d i m : Nat) : Blind fun s => (maskChoice d i m s).2 := blind_of fun s x => by
  simp only [maskChoice, withPorts_dest]
  by_cases hbad : Config.lastDest < d ∨ (s.dest d).routes.length ≤ i
  · simp only [hbad, ↓reduceIte]
    exact withPorts_sameBut s x
  · simp only [hbad, ↓reduceIte]
    split <;> exact withPorts_sameBut _ x

theorem setFirst_blind (d i : Nat) : Blind fun s => (setFirst d i s).2 := blind_of fun s x => by
  simp only [setFirst, withPorts_dest]
  split
  · exact withPorts_sameBut s x
  split
  · exact withPorts_sameBut s x
  rename_i c _
  by_cases hrot : rotates (s.dest d) c.rank = true
  · simp only [hrot, ↓reduceIte]
    exact withPorts_sameBut _ x
  · simp only [hrot]
    exact withPorts_sameBut s x

end Routes

/-! ### Restriction and congestion -/

section Restriction

theorem farCongestion_blind (d g n : Nat) : Blind fun s => (farCongestion d g n s).2 := blind_of fun s x => by
  simp only [farCongestion, withPorts_dest, withPorts_now]
  split <;> exact withPorts_sameBut _ x

theorem openDest_blind (d : Nat) : Blind (openDest d) := blind_of fun s x =>
  raiseAll_blind _ _ _ (withPorts_sameBut (s.setRestriction d none) x)

theorem farClear_blind (d : Nat) : Blind fun s => (farClear d s).2 := blind_of fun s x => by
  simp only [farClear, withPorts_dest]
  split
  · exact withPorts_sameBut s x
  split
  · exact withPorts_sameBut s x
  · exact openDest_blind d _ _ (withPorts_sameBut s x)

theorem writeProfile_blind (n : Nat) (p : Profile) : Blind fun s => (writeProfile n p s).2 := blind_of fun s x => by
  simp only [writeProfile]
  split <;> exact withPorts_sameBut _ x

theorem setPeriod_blind (n : Nat) : Blind fun s => (setPeriod n s).2 := blind_of fun s x => by
  simp only [setPeriod]
  split <;> exact withPorts_sameBut _ x

theorem resetLatch_blind (g : Nat) : Blind fun s => resetLatch s g := blind_of fun s x => by
  simp only [resetLatch, withPorts_group]
  split <;> exact withPorts_sameBut _ x

theorem foldl_resetLatch_blind (l : List Nat) : Blind fun s => l.foldl resetLatch s := by
  induction l with
  | nil => exact fun _ _ h => h
  | cons g l ih => exact ih.comp (resetLatch_blind g)

theorem readCongestion_blind (a n : Nat) : Blind fun s => (readCongestion a n s).2 := blind_of fun s x => by
  simp only [readCongestion]
  split
  · exact withPorts_sameBut s x
  · exact foldl_resetLatch_blind _ _ _ (withPorts_sameBut s x)

end Restriction

/-! ### Agreements, rating and settlement -/

section Settlement

theorem rewriteAgreement_blind (c : Nat) (a : Agreement) : Blind (rewriteAgreement c a) := blind_of fun s x => by
  simp only [rewriteAgreement, withPorts_agreement]
  by_cases hsame : agreementName a.state = agreementName (s.agreement c).state
  · simp only [hsame, ↓reduceIte]
    exact withPorts_sameBut _ x
  · simp only [hsame, ↓reduceIte]
    exact raiseAll_blind _ _ _ (withPorts_sameBut (s.setAgreement c a) x)

theorem writeLocalOffer_blind (c : Nat) (l : List Nat) : Blind fun s => (writeLocalOffer c l s).2 :=
  blind_of fun s x => by
    simp only [writeLocalOffer, withPorts_agreement]
    split
    · exact withPorts_sameBut s x
    · exact rewriteAgreement_blind c _ _ _ (withPorts_sameBut s x)

theorem writeCarrierOffer_blind (c : Nat) (l : List Nat) : Blind fun s => (writeCarrierOffer c l s).2 :=
  blind_of fun s x => by
    simp only [writeCarrierOffer, withPorts_agreement]
    split
    · exact withPorts_sameBut s x
    · exact rewriteAgreement_blind c _ _ _ (withPorts_sameBut s x)

theorem confirmAgreement_blind (c n : Nat) : Blind fun s => (confirmAgreement c n s).2 := blind_of fun s x => by
  simp only [confirmAgreement, withPorts_agreement]
  split
  · exact withPorts_sameBut s x
  split
  · exact rewriteAgreement_blind c _ _ _ (withPorts_sameBut s x)
  all_goals exact withPorts_sameBut s x

theorem withdrawAgreement_blind (c : Nat) : Blind fun s => (withdrawAgreement c s).2 := blind_of fun s x => by
  simp only [withdrawAgreement, withPorts_agreement]
  split
  · exact withPorts_sameBut s x
  · exact rewriteAgreement_blind c _ _ _ (withPorts_sameBut s x)

theorem writeTariff_blind (c n : Nat) (v : TariffClass) : Blind fun s => (writeTariff c n v s).2 :=
  blind_of fun s x => by
    simp only [writeTariff]
    split <;> exact withPorts_sameBut _ x

theorem writeBands_blind (l : List SwitchPoint) : Blind fun s => (writeBands l s).2 := blind_of fun s x => by
  simp only [writeBands]
  split <;> exact withPorts_sameBut _ x

theorem setBank_blind (k : BankId) (b : Bank) : Blind fun s => s.setBank k b := blind_of fun s x => by
  cases k <;> exact withPorts_sameBut _ x

/-- The close takes banks, tariffs and flags at once (R137, R139). -/
theorem swapBanks_blind : Blind swapBanks := blind_of fun s x => by
  simp only [swapBanks, withPorts_bank, withPorts_sts]
  refine raiseAll_blind _ _ _ ?_
  cases s.sts.activeBank <;> exact withPorts_sameBut _ x

theorem deferClose_blind : Blind deferClose := blind_of fun s x => by
  simp only [deferClose, withPorts_bank, withPorts_sts]
  split
  · exact withPorts_sameBut s x
  · exact raiseAll_blind _ _ _ (withPorts_sameBut _ x)

theorem performClose_blind : Blind performClose := blind_of fun s x => by
  simp only [performClose, withPorts_mustDefer]
  split
  · exact deferClose_blind _ _ (withPorts_sameBut s x)
  · exact swapBanks_blind _ _ (withPorts_sameBut s x)

theorem closePeriod_blind : Blind fun s => (closePeriod s).2 := blind_of fun s x => by
  simp only [closePeriod, withPorts_mustDefer]
  split <;> exact performClose_blind _ _ (withPorts_sameBut s x)

theorem collectBank_blind (k : BankId) : Blind fun s => (collectBank k s).2 := blind_of fun s x => by
  have hbank := setBank_blind k ⟨.available, []⟩ _ _ (withPorts_sameBut s x)
  simp only [collectBank, withPorts_sts]
  by_cases hdeferred : s.sts.closeDeferred = true
  · simp only [hdeferred, ↓reduceIte]
    exact swapBanks_blind _ _ hbank
  · simp only [hdeferred]
    exact hbank

theorem releaseBank_blind (n : Nat) : Blind fun s => (releaseBank n s).2 := blind_of fun s x => by
  simp only [releaseBank, withPorts_bank]
  split
  · exact withPorts_sameBut s x
  split
  · exact collectBank_blind _ _ _ (withPorts_sameBut s x)
  all_goals exact withPorts_sameBut s x

theorem setAutoCloseSecond_blind (f n : Nat) : Blind fun s => (setAutoCloseSecond f n s).2 := blind_of fun s x => by
  simp only [setAutoCloseSecond]
  split <;> exact withPorts_sameBut _ x

theorem setTime_blind (d n m : Nat) : Blind fun s => (setTime d n m s).2 := blind_of fun s x => by
  simp only [setTime]
  split <;> exact withPorts_sameBut _ x

end Settlement

/-! ### Every request -/

/-- A block's part makes the same of the other blocks in two states that agree but for PCT and give the ports the same roles (R43, R160). -/
theorem blockPart_sameRoles {c : Instr} {s t : State} (h : s.SameBut [.pct] t)
    (hrole : ∀ p, (t.port p).role = (s.port p).role) : (blockPart c s).2.SameBut [.pct] (blockPart c t).2 := by
  have hread : Instr.reads c = true → (blockPart c s).2.SameBut [.pct] (blockPart c t).2 := fun hc => by
    rw [blockPart_read hc s, blockPart_read hc t]
    exact h
  have hsimple {f : State → State} (hf : ∀ s x, f (s.withPorts x) = (f s).withPorts x) : (f s).SameBut [.pct] (f t) :=
    (blind_of fun s x => (hf s x).symm ▸ withPorts_sameBut _ x) s t h
  cases c with
  | powerOnReset _ | millisecondTick | lineIndicationLost _ | lineIndicationGood _ | linkUp _ | frameArrival _ _ _
  | engineGrant | replySent _ | guardExpiry _ | gapExpiry _ | restrictionEnd _ | periodEnd | automaticClose => exact h
  | route r d n inb => exact routeCall_blind _ _ _ _ s t h
  | confirm r i g => exact confirmCall_blind _ _ _ s t h
  | answer r i g => exact answerCall_blind _ _ _ s t h
  | release r i g => exact releaseCall_blind _ _ _ s t h
  | reroute r i g => exact rerouteCall_blind _ _ _ s t h
  | setGuard r n => exact hsimple (f := fun s => (setGuard n s).2) fun _ _ => rfl
  | adoptPort r f u => exact adoptPort_sameRoles h hrole _ _
  | exchangeRestart r => exact exchangeRestart_blind s t h
  | defineGroupDefine r g a => exact defineGroup_blind _ _ s t h
  | defineGroupRemove r g f => exact removeGroup_blind _ _ s t h
  | setGroupStateBlock r g => exact blockGroup_blind _ s t h
  | setGroupStateUnblock r g f => exact unblockGroup_blind _ _ s t h
  | setReserve r g n => exact setReserve_blind _ _ s t h
  | circuitMaintOut r n => exact circuitOut_blind _ s t h
  | circuitMaintReturn r n f => exact circuitReturn_blind _ _ s t h
  | writeDest r d f l => exact writeDest_blind _ _ _ s t h
  | writeRouteSet r n l => exact writeRouteSet_blind _ _ s t h
  | maskChoice r d i m => exact maskChoice_blind _ _ _ s t h
  | setFirst r d i => exact setFirst_blind _ _ s t h
  | farCongestion r d g n => exact farCongestion_blind _ _ _ s t h
  | farClear r d => exact farClear_blind _ s t h
  | writeProfile r n p => exact writeProfile_blind _ _ s t h
  | setPeriod r n => exact setPeriod_blind _ s t h
  | readCongestionGroup r a n => exact readCongestion_blind _ _ s t h
  | writeLocalOffer r n l => exact writeLocalOffer_blind _ _ s t h
  | writeCarrierOffer r n l => exact writeCarrierOffer_blind _ _ s t h
  | confirmAgreement r n m => exact confirmAgreement_blind _ _ s t h
  | withdrawAgreement r n => exact withdrawAgreement_blind _ s t h
  | writeTariff r n m v => exact writeTariff_blind _ _ _ s t h
  | writeBands r l => exact writeBands_blind _ s t h
  | closePeriod r => exact closePeriod_blind s t h
  | setAutoCloseOff r => exact hsimple (f := fun s => (setAutoCloseOff s).2) fun _ _ => rfl
  | setAutoCloseSecond r f n => exact setAutoCloseSecond_blind _ _ s t h
  | releaseBank r n => exact releaseBank_blind _ s t h
  | setTime r d n m => exact setTime_blind _ _ _ s t h
  | takeNotices r => exact h.both (setPort_sameBut s _ _) (setPort_sameBut t _ _)
  | setNoticeMask r m => exact h.both (setNoticeMask_sameBut s _ _) (setNoticeMask_sameBut t _ _)
  | portStatus r n => exact h.both (portStatus_sameBut s _ _) (portStatus_sameBut t _ _)
  | _ => exact hread rfl

/-! ### The same request, asked by another -/

/-- The row of the same request, asked by `r`; an event is nobody's. -/
def askedBy (r : Requester) : Instr → Instr
  | .route _ dest cls inbound => .route r dest cls inbound
  | .confirm _ index gen => .confirm r index gen
  | .answer _ index gen => .answer r index gen
  | .release _ index gen => .release r index gen
  | .reroute _ index gen => .reroute r index gen
  | .queryCall _ index gen => .queryCall r index gen
  | .setGuard _ seconds => .setGuard r seconds
  | .adoptPort _ fromPort toPort => .adoptPort r fromPort toPort
  | .exchangeRestart _ => .exchangeRestart r
  | .defineGroupDefine _ group arg => .defineGroupDefine r group arg
  | .defineGroupRemove _ group form => .defineGroupRemove r group form
  | .setGroupStateBlock _ group => .setGroupStateBlock r group
  | .setGroupStateUnblock _ group form => .setGroupStateUnblock r group form
  | .setReserve _ group reserve => .setReserve r group reserve
  | .circuitMaintOut _ circuit => .circuitMaintOut r circuit
  | .circuitMaintReturn _ circuit form => .circuitMaintReturn r circuit form
  | .readGroupSummary _ group form => .readGroupSummary r group form
  | .readGroupCircuit _ group start n => .readGroupCircuit r group start n
  | .readGroupFreeList _ group start n => .readGroupFreeList r group start n
  | .writeDest _ dest rotate choices => .writeDest r dest rotate choices
  | .writeRouteSet _ set entries => .writeRouteSet r set entries
  | .maskChoice _ dest position mask => .maskChoice r dest position mask
  | .setFirst _ dest position => .setFirst r dest position
  | .readDestDestination _ dest => .readDestDestination r dest
  | .readDestRouteSet _ form set => .readDestRouteSet r form set
  | .farCongestion _ dest gap duration => .farCongestion r dest gap duration
  | .farClear _ dest => .farClear r dest
  | .writeProfile _ profile arg => .writeProfile r profile arg
  | .setPeriod _ code => .setPeriod r code
  | .readCongestionGroup _ first count => .readCongestionGroup r first count
  | .readCongestionProfile _ profile => .readCongestionProfile r profile
  | .readCongestionPeriod _ form => .readCongestionPeriod r form
  | .writeLocalOffer _ carrier slots => .writeLocalOffer r carrier slots
  | .writeCarrierOffer _ carrier slots => .writeCarrierOffer r carrier slots
  | .confirmAgreement _ carrier slot => .confirmAgreement r carrier slot
  | .withdrawAgreement _ carrier => .withdrawAgreement r carrier
  | .readAgreement _ first count => .readAgreement r first count
  | .writeTariff _ carrier slot arg => .writeTariff r carrier slot arg
  | .writeBands _ points => .writeBands r points
  | .readTariffClass _ copy carrier slot => .readTariffClass r copy carrier slot
  | .readTariffBand _ form copy => .readTariffBand r form copy
  | .closePeriod _ => .closePeriod r
  | .setAutoCloseOff _ => .setAutoCloseOff r
  | .setAutoCloseSecond _ form second => .setAutoCloseSecond r form second
  | .readBank _ bank first count => .readBank r bank first count
  | .releaseBank _ bank => .releaseBank r bank
  | .setTime _ day second milli => .setTime r day second milli
  | .readTime _ => .readTime r
  | .takeNotices _ => .takeNotices r
  | .setNoticeMask _ mask => .setNoticeMask r mask
  | .portStatus _ port => .portStatus r port
  | .identify _ => .identify r
  | c => c

section Asking

variable {c : Instr} {r r' : Requester} {k : Kind} {b : List Byte} {q : Request}

theorem askedBy_commandOf : askedBy r' (commandOf r k b) = commandOf r' k b := by
  cases k
  case defineGroup | setGroupState | circuitMaint | readGroup | readDest | readCongestion | readTariff | setAutoClose =>
    simp only [commandOf]
    split <;> rfl
  all_goals rfl

theorem commandOf_requester : (commandOf r k b).requester? = some r := by
  cases k
  case defineGroup | setGroupState | circuitMaint | readGroup | readDest | readCongestion | readTariff | setAutoClose =>
    simp only [commandOf]
    split <;> rfl
  all_goals rfl

/-- A block's part asks of its requester only the port. -/
theorem blockPart_askedBy (hr : c.requester? = some r) (hport : r'.port = r.port) :
    blockPart (askedBy r' c) = blockPart c := by
  cases c <;> cases hr
  case route | confirm | answer | release | reroute | takeNotices | setNoticeMask | portStatus | identify =>
    simp only [askedBy, blockPart, hport]
  all_goals rfl

theorem asksFor_askedBy (h : asksFor r c q = true) : asksFor r' (askedBy r' c) q = true := by
  obtain ⟨k, hk, rfl⟩ := (asksFor_iff r c q).1 h
  exact (asksFor_iff _ _ _).2 ⟨k, hk, askedBy_commandOf.symm⟩

end Asking

/-! ### The loss of the link -/

section Loss

variable {p : PortId} {s t : State} {now : Nat} {q : Port} {c : Instr}

theorem lineLost_role (now : Nat) (q : Port) : (lineLost now q).role = q.role := by
  simp only [lineLost]
  split <;> rfl

/-- A loss leaves every port its role. -/
theorem setPort_lineLost_role (s : State) (p p' : PortId) :
    ((s.setPort p (lineLost s.now (s.port p))).port p').role = (s.port p').role := by
  by_cases hp : p' = p
  · subst hp
    rw [setPort_port_self, lineLost_role]
  · rw [setPort_otherPorts p' hp]

/-- The head that a loss finds in service is left with its block (R160). -/
theorem inService_detached_of_loss (hup : (s.port p).link = .up)
    (hst : (s.port p).stage = .inService ∨ ((s.port p).stage = .checked ∧ (s.port p).headAt < s.now))
    (hin : s.inService (.head p) c = true) :
    (s.setPort p (lineLost s.now (s.port p))).inService (.detached p) (askedBy (.detached p) c) = true := by
  obtain ⟨-, q, rest, hf, hq⟩ := inService_head s p c hin
  have hleft : headLeftInService s.now (s.port p) = [q] := by
    rw [headLeftInService_eq, if_pos hst, hf]
    rfl
  simp only [State.inService, setPort_port_self, lineLost_of_up hup, linkLoss, hleft, List.any_append, List.any_cons,
    asksFor_askedBy hq, Bool.true_or, Bool.or_true]

/-- Served before the loss or after it, a request makes the same of every block but PCT. -/
theorem served_sameBut_loss {k : Kind} {b : List Byte} {u : State} (hup : (s.port p).link = .up)
    (hst : (s.port p).stage = .inService ∨ ((s.port p).stage = .checked ∧ (s.port p).headAt < s.now))
    (hin : s.inService (.head p) (commandOf (.head p) k b) = true)
    (ht : exec (commandOf (.head p) k b) s = .next t)
    (hu : exec (commandOf (.detached p) k b) (s.setPort p (lineLost s.now (s.port p))) = .next u) :
    State.SameBut [.pct] t u := by
  have hin' := inService_detached_of_loss hup hst hin
  have hpart := blockPart_askedBy (r' := .detached p) (commandOf_requester (r := .head p) (k := k) (b := b)) rfl
  rw [askedBy_commandOf] at hin' hpart
  rw [exec_of_inService commandOf_requester hin] at ht
  rw [exec_of_inService commandOf_requester hin', hpart] at hu
  cases ht
  cases hu
  have hsame := blockPart_sameRoles (c := commandOf (.head p) k b) (setPort_sameBut s p _) (setPort_lineLost_role s p)
  exact hsame.both (sameBut_deliver _ _ _ _) (sameBut_deliver _ _ _ _)

/-! ### A loss that meets a new head -/

/-- What an event at a port leaves of it where a loss can follow within the millisecond: the line and the link stand, nothing is detached yet, and `left` is what a loss would find in service. -/
structure Port.MeetsLoss (now : Nat) (q : Port) (left : List Request) (q' : Port) : Prop where
  link : q'.link = q.link
  line : q'.line = q.line
  goodSince : q'.goodSince = q.goodSince
  detached : q'.detached = q.detached
  left : headLeftInService now q' = left

theorem Port.MeetsLoss.refl (now : Nat) (q : Port) : Port.MeetsLoss now q (headLeftInService now q) q :=
  ⟨rfl, rfl, rfl, rfl, rfl⟩

/-- A head examined within this millisecond is not in service yet (log entry 14). -/
theorem checkHead_meetsLoss (now : Nat) (q : Port) : Port.MeetsLoss now q [] (checkHead now q) := by
  cases hf : q.fifo with
  | nil =>
    rw [checkHead_nil hf]
    exact ⟨rfl, rfl, rfl, rfl, by simp [headLeftInService_eq]⟩
  | cons h rest =>
    cases hr : headRefusal q.role h with
    | some e =>
      rw [checkHead_refused hf hr]
      exact ⟨rfl, rfl, rfl, rfl, by simp [headLeftInService_eq]⟩
    | none =>
      rw [checkHead_passed hf hr]
      exact ⟨rfl, rfl, rfl, rfl, by cases ownedByEngine h <;> simp [headLeftInService_eq]⟩

theorem takeRequest_meetsLoss (now : Nat) (h : Request) (q : Port) :
    Port.MeetsLoss now q (headLeftInService now q) (takeRequest now h q) := by
  rcases hf : q.fifo with - | ⟨a, - | ⟨a', l⟩⟩
  · obtain ⟨hlink, hline, hgood, hdet, hleft⟩ := checkHead_meetsLoss now { q with fifo := [h] }
    rw [takeRequest_first hf]
    exact ⟨hlink, hline, hgood, hdet, hleft.trans (by simp [headLeftInService_eq, hf])⟩
  · rw [takeRequest_joins (by simp [hf])]
    exact ⟨rfl, rfl, rfl, rfl, by simp [headLeftInService_eq, hf]⟩
  · rw [takeRequest_full (by simp [hf])]
    unfold holdRequest
    split
    · exact ⟨rfl, rfl, rfl, rfl, by simp only [headLeftInService_eq]⟩
    · exact .refl now q

theorem receiveFrame_meetsLoss (now : Nat) (bytes : List Byte) (fault : Bool) (q : Port) :
    Port.MeetsLoss now q (headLeftInService now q) (receiveFrame now bytes fault q) := by
  unfold receiveFrame
  split
  · exact .refl now q
  split
  · exact takeRequest_meetsLoss now _ q
  · exact ⟨rfl, rfl, rfl, rfl, by simp only [headLeftInService_eq]⟩

theorem sendReply_meetsLoss {f : ReplyFrame} {rest : List ReplyFrame} (hr : q.replies = f :: rest)
    (hf : f.hold = false) (now : Nat) : Port.MeetsLoss now q [] (sendReply now q) := by
  rw [sendReply_served hr hf]
  obtain ⟨hlink, hline, hgood, hdet, hleft⟩ := checkHead_meetsLoss now { q with replies := rest, fifo := q.fifo.tail }
  exact ⟨hlink, hline, hgood, hdet, hleft⟩

/-- A loss that follows an event at its port. -/
theorem loss_after {left : List Request} (hup : (s.port p).link = .up) (hl : (s.port p).line = .good)
    (hd : (s.port p).goodSince + 20 ≤ s.now) (hmeet : Port.MeetsLoss s.now (s.port p) left q) :
    ∃ u, exec (.lineIndicationLost p) (s.setPort p q) = .next u
      ∧ (u.port p).link = .down ∧ (u.port p).fifo = [] ∧ (u.port p).replies = [] ∧ (u.port p).stage = .noHead
      ∧ (u.port p).detached = (s.port p).detached ++ left ∧ s.OtherPorts p u ∧ s.SameBut [.pct] u := by
  obtain ⟨hlink, hline, hgood, hdet, hleft⟩ := hmeet
  have hport : (s.setPort p q).port p = q := setPort_port_self
  refine ⟨_, exec_lineIndicationLost_due (by rw [hport, hline, hl]) (by rw [hport, hgood]; exact hd), ?_⟩
  rw [setPort_port_self, hport, lineLost_of_up (hlink.trans hup)]
  refine ⟨rfl, rfl, rfl, rfl, congrArg₂ (· ++ ·) hdet hleft, fun p' hp' => ?_, ?_⟩
  · rw [setPort_otherPorts p' hp', setPort_otherPorts p' hp']
  · exact (setPort_sameBut s p q).trans (setPort_sameBut _ p _)

/-- Settles O4: no block's part reads the ports, and a head of this millisecond is not yet in service. -/
theorem linkLossCostsOnlyTheReply : Obligations.LinkLossCostsOnlyTheReply := by
  refine ⟨fun k b p s t u hup hst hin ht hu => served_sameBut_loss hup hst hin ht hu,
    fun c p s left hup hl hd hc => ?_⟩
  obtain ⟨bytes, fault, rfl, rfl⟩ | ⟨f, rest, rfl, hr, hf, rfl⟩ := hc
  · rw [← headLeftInService_eq]
    obtain ⟨u, hu⟩ := loss_after hup hl hd (receiveFrame_meetsLoss s.now bytes fault (s.port p))
    exact ⟨_, u, rfl, hu⟩
  · obtain ⟨u, hu⟩ := loss_after hup hl hd (sendReply_meetsLoss hr hf s.now)
    exact ⟨_, u, rfl, hu⟩

end Loss

end Sys2Proof.Machine
end

section
/-! SUPPORT. The requests about notices and port status: TAKE_NOTICES, SET_NOTICE_MASK and PORT_STATUS (R180 to R183). -/

namespace Sys2Proof.Machine

open Sys2Proof

/-! ### One port written for its own request -/

/-- A request whose block writes the requesting port alone: the block's part, the frame, and the reply that is delivered behind it. -/
theorem serve_writesOwnPort {r : Requester} {c : Instr} {s : State} {a : Reply} {q : Port} (h : s.inService r c = true)
    (f : State → Reply × State) (hf : f s = (a, s.setPort r.port q)) :
    ∃ t u, serve r c f s = .next t ∧ s.SameBut [.pct] t ∧ u.port r.port = q ∧ s.OtherPorts r.port u
      ∧ t.pct = (u.deliver r c a).pct :=
  ⟨_, s.setPort r.port q, serve_eq h f hf, (setPort_sameBut s _ q).trans (sameBut_deliver _ r c a), setPort_port_self,
    setPort_otherPorts, rfl⟩

/-! ### The notice queue and its mask -/

/-- The attention line is released with the last notice (R180, R181). -/
theorem dropNotices_eq (n : Nat) (q : Port) : dropNotices n q = { q with
    notices := q.notices.drop n, attention := decide (q.link = .up) && decide (n < q.notices.length) } := by
  have hleft : (!(q.notices.drop n).isEmpty) = decide (n < q.notices.length) := by
    rw [Bool.eq_iff_iff]
    simp
  rw [← hleft]
  rfl

/-- A byte above 63 is one with bit 6 or bit 7 set (R182). -/
theorem le_toNat_iff_getLsbD (mask : Byte) : 64 ≤ mask.toNat ↔ mask.getLsbD 6 = true ∨ mask.getLsbD 7 = true := by
  have hlt : mask.toNat < 256 := mask.isLt
  simp only [BitVec.getLsbD, Nat.testBit_eq_decide_div_mod_eq, decide_eq_true_eq]
  omega

theorem setNoticeMask_done {mask : Byte} (h : mask.toNat < 64) (p : PortId) (s : State) :
    setNoticeMask p mask s = (⟨.done, [mask]⟩, s.setPort p { s.port p with mask := mask.setWidth 6 }) :=
  if_neg fun hbit => absurd ((le_toNat_iff_getLsbD mask).2 hbit) (Nat.not_le.2 h)

theorem setNoticeMask_badValue {mask : Byte} (h : 64 ≤ mask.toNat) (p : PortId) (s : State) :
    setNoticeMask p mask s = (⟨.badValue, []⟩, s) :=
  if_pos ((le_toNat_iff_getLsbD mask).1 h)

/-! ### The status of a port -/

theorem portOf_eq_none {n : Nat} (h : 3 < n) : portOf n = none :=
  Option.eq_none_iff_forall_ne_some.2 fun p hp =>
    absurd (portNumber_le p) (Nat.not_le.2 ((portOf_eq_some_iff n p).1 hp ▸ h))

theorem portStatus_badValue {n : Nat} (h : 3 < n) (p : PortId) (s : State) :
    portStatus p n s = (⟨.badValue, []⟩, s) := by
  simp only [portStatus, portOf_eq_none h, Reply.plain]

/-- What a PORT_STATUS for port `t` reports, and the flags that it clears (R183). -/
theorem portStatus_portNumber (p t : PortId) (s : State) : portStatus p (portNumber t) s =
    (⟨.done, statusBytes t (s.port t)⟩, if t = p then s.setPort p (clearFlags (s.port p)) else s) := by
  simp only [portStatus, (portOf_eq_some_iff _ t).2 rfl]

/-- Settles O13: each accepted write is one of the requesting port alone, and the refusals and the status of another port leave the state as it is. -/
theorem noticeRequestsAct : Obligations.NoticeRequestsAct := by
  refine ⟨fun r s h => ?_, fun r mask s h => ⟨fun hlow => ?_, fun hhigh => ?_⟩,
    fun r n s h => ⟨fun hn => ?_, fun p hp => ⟨fun hother => ?_, fun hown => ?_⟩⟩⟩
  · rw [← dropNotices_eq]
    exact serve_writesOwnPort h (takeNotices r.port) rfl
  · exact serve_writesOwnPort h _ (setNoticeMask_done hlow r.port s)
  · exact serve_eq h _ (setNoticeMask_badValue hhigh r.port s)
  · exact serve_eq h _ (portStatus_badValue hn r.port s)
  · subst hp
    exact serve_eq h _ ((portStatus_portNumber r.port p s).trans (by rw [if_neg hother]))
  · subst hp hown
    exact serve_writesOwnPort h _ ((portStatus_portNumber r.port r.port s).trans (by rw [if_pos rfl]; rfl))

end Sys2Proof.Machine
end

section
/-! SUPPORT. The queue of commands: what one step does with a queue that holds a command, and with an empty one. -/

namespace Sys2Proof.Machine

open Sys2Proof

/-- The command leaves the queue before it takes place, so it sees only what waits behind it. -/
theorem step_of_pending_cons {s : State} {c : Instr} {rest : List Instr} (h : s.pending = c :: rest) :
    step s = exec c { s with pending := rest } := by
  simp only [step, h]

/-- The part idles rather than faults (log entry 9). -/
theorem step_of_pending_nil {s : State} (h : s.pending = []) : step s = .next s := by
  simp only [step, h]

/-- Settles O1: the two cases of the queue, a command at its front or none. -/
theorem stepRunsTheFrontCommand : Obligations.StepRunsTheFrontCommand :=
  ⟨fun _ _ _ => step_of_pending_cons, fun _ => step_of_pending_nil⟩

end Sys2Proof.Machine
end
